-- ==== Sys2Proof/Word.lean ====
section
/-! DEFINITION. The widths of the machine's data (spec/00_scope.md rules R6, R8): bytes, 16-bit words and
addresses of the LR35902, 12-bit addresses and 4-bit register numbers of the CHIP-8 machine. -/

namespace Sys2Proof

/-- A byte: a register, a memory cell, an immediate `n` or `e`. -/
abbrev Byte := BitVec 8

/-- A 16-bit word of the Game Boy machine: `SP`, `PC`, a pair, an address, an immediate `nn`; also one CHIP-8 instruction
word `op` (rule R300). -/
abbrev Word := BitVec 16

/-- A 12-bit CHIP-8 address: `I`, `pc`, a stack entry, `nnn` (spec/10_state.md rules R42 to R44). -/
abbrev Addr12 := BitVec 12

/-- A 4-bit CHIP-8 field: a register number `x` or `y`, a key, a sprite height `n` (spec/49_chip8.md rule R301). -/
abbrev Nibble := BitVec 4

end Sys2Proof
end

