-- ==== Sys2Proof/Config.lean ====
section
/-! DEFINITION. What an implementation fixes (spec/00_scope.md rule R6) and the free values: the parameters a state carries,
the fixed constants, and the two opaque streams of bytes of which nothing can be proved. -/

namespace Sys2Proof

/-- `IRQ_VECTORING` (rule R6, decision D1): whether the CPU vectors through 0x0040 on a VBlank request. OPEN in the spec. -/
inductive IrqVectoring where
  | none
  | vblank
deriving DecidableEq, Repr

/-- `UNDEF_POLICY` (rule R6, decision D2): what an undefined first byte does. The spec takes `skip`. -/
inductive UndefPolicy where
  | skip
  | fault
deriving DecidableEq, Repr

/-- The parameters of rule R6 that a run fixes. No step and no host call changes them (log entries 4, 5, 6). -/
structure Config where
  irqVectoring : IrqVectoring
  undefPolicy  : UndefPolicy
  ch8Batch     : Nat
deriving DecidableEq, Repr

/-- The setting `State.reset` carries: DESIGN CHOICE `none` for the open `IRQ_VECTORING` (log entry 4, unsafe), the spec's
`skip` (log entry 5) and the spec's default batch of 9 (log entry 6). -/
def Config.initial : Config :=
  { irqVectoring := .none, undefPolicy := .skip, ch8Batch := 9 }

/-- `GB_STEP_CAP` (rule R6): CPU steps per frame tick at most, 70224 / 4. -/
def Config.gbStepCap : Nat := 17556

/-- T-states of one scanline (spec/60_exceptions.md rule R413). -/
def Config.lineCycles : Nat := 456

/-- Which byte access of a step a read is: the k-th byte of the instruction, the k-th data byte, or the k-th byte of an OAM
DMA copy. It only tells apart the draws of one step (log entry 7). -/
inductive ReadSlot where
  | fetch (k : Nat)
  | data (k : Nat)
  | dma (k : Nat)
deriving DecidableEq, Repr

/-- FREE VALUE (spec/20_memory.md rule R64, decision D11; log entry 7): the byte a read past the end of the ROM image gives, "a
draw, any byte, possibly different at each read". One draw per step counter and access. -/
opaque Config.openRomByte : Nat → ReadSlot → Byte

/-- FREE VALUE (spec/49_chip8.md rule R326, decision D35; log entry 8): the byte stream `CH8_RNG`, by place in the stream. -/
opaque Config.ch8Rng : Nat → Byte

end Sys2Proof
end

