-- ==== Sys2Proof/Machine/State.lean ====
section
/-! DEFINITION. The state of the whole machine as plain data (spec/10_state.md): the Game Boy machine with its LR35902 core, the
CHIP-8 machine, and the scheduler with the host side; the faults and refusals; the state after reset. -/

namespace Sys2Proof.Machine

/-- A store of values by address, in one canonical form: addresses strictly rising, and no entry equal to what an unlisted
address reads as (`Memory.wf`). With bytes it is a list of `Host.Cell`. -/
abbrev Memory (α : Type) := List (Nat × α)

/-- The four flags of `F` (rule R24, which allows "four booleans"; log entry 12). Bits 3 to 0 of `F` are always 0. -/
structure Flags where
  z : Bool
  n : Bool
  h : Bool
  c : Bool
deriving DecidableEq, Repr

/-- The Game Boy machine (rules R20 to R39). -/
structure GameBoy where
  /-- The accumulator (rule R20). -/
  a : Byte
  /-- The flag register `F` (rule R24). -/
  f : Flags
  /-- General registers (rule R20). -/
  b : Byte
  c : Byte
  d : Byte
  e : Byte
  h : Byte
  l : Byte
  /-- The stack pointer (rule R22). -/
  sp : Word
  /-- The program counter (rule R25). -/
  pc : Word
  /-- The interrupt master enable (rule R28). -/
  ime : Bool
  /-- Set by `HALT` (rule R29). -/
  halted : Bool
  /-- `vram`, `eram`, `wram`, `oam`, `io`, `hram` and `ie`, each byte at its bus address (rule R30). -/
  mem : Memory Byte
  /-- The ROM image by image offset; the bytes not listed are 0x00 (rule R65). -/
  rom : Memory Byte
  /-- The length of the ROM image in bytes; 0 when none is loaded (rules R6, R453). -/
  romLen : Nat
  /-- The bank-select latch (rules R31, R67). -/
  romBank : BitVec 5
  /-- The RAM-enable latch (rules R31, R66). -/
  ramEnabled : Bool
  /-- The input latch, a bit low while its button is pressed (rule R36). -/
  buttons : Byte
  /-- T-states into the current scanline (rule R37). -/
  scanlineCounter : Nat
  /-- Set when `LY` becomes 144 (rules R37, R431). -/
  frameReady : Bool
  /-- The 160 by 144 cells of 2 bits by index `line * 160 + col`; the cells not listed are 0 (rules R37, R418). -/
  framebuffer : Memory (BitVec 2)
  /-- What the last CPU step returned: its cost in T-states (rule R7's cycle report; log entry 13). -/
  cycles : Nat
  /-- The model's own draw counter, one more after every CPU step (log entry 7). -/
  epoch : Nat
deriving DecidableEq, Repr

/-- The CHIP-8 machine (rules R40 to R51). -/
structure Chip8 where
  /-- 4096 bytes; the bytes not listed are the font's, or 0x00 (rules R40, R50). -/
  memory : Memory Byte
  /-- `V[0]` to `V[15]` (rule R41). -/
  v : Vector Byte 16
  /-- The index register (rule R42). -/
  i : Addr12
  /-- The program counter (rule R43). -/
  pc : Addr12
  /-- The return addresses (rule R44). -/
  stack : Vector Addr12 16
  /-- How many of them are in use, 0 to 16 (rule R44). -/
  sp : Fin 17
  /-- The delay timer (rule R45). -/
  delay : Byte
  /-- The sound timer (rule R45). -/
  sound : Byte
  /-- The display by rows: bit `x` of row `y` is the pixel at column `x` (rule R46). -/
  gfx : Vector (BitVec 64) 32
  /-- Which keys are held (rule R47). -/
  keys : Vector Bool 16
  /-- Set by `FX0A` until a key press (rule R48). -/
  waitingForKey : Bool
  /-- The register that `FX0A` waits to write (rule R48). -/
  waitReg : Nibble
  /-- How many bytes of the random stream are used up (rule R49; log entry 8). -/
  rngDraws : Nat
  /-- The image last loaded, which a reset copies back to 0x200 (rule R344). -/
  image : List Byte
  /-- How many bell cues were emitted (rule R341; log entry 14). -/
  bells : Nat
deriving DecidableEq, Repr

/-- A call of the host other than `step_frame()` (rule R464). It is taken between ticks, never inside one (rules R430, R340). -/
inductive HostCall where
  /-- `load_rom(bytes)` of the named machine (rules R453, R344). -/
  | loadRom (m : MachineId) (bytes : List Byte)
  /-- `load_rom` whose underlying read failed (rule R456, `IoFailure`). -/
  | loadFailed (m : MachineId)
  /-- `reset()` of the named machine (rules R450, R344). -/
  | reset (m : MachineId)
  | run
  | pause
  | stop
  /-- `set_button(index, pressed)` (rule R420). -/
  | setButton (index : Fin 8) (pressed : Bool)
  /-- `set_key(index, pressed)` (rule R343). -/
  | setKey (index : Nibble) (pressed : Bool)
  /-- The host turns to the other machine (log entry 1). -/
  | select (m : MachineId)
deriving DecidableEq, Repr

/-- What the host does next at a tick boundary (rule R464): one of its other calls, or a frame tick by `step_frame()`, so that calls can
come after any tick of a run (log entry 3). -/
inductive HostEvent where
  | call (c : HostCall)
  /-- `step_frame()` or `ch8_step_frame()` of the active machine (rules R430, R340). -/
  | stepFrame
deriving DecidableEq, Repr

/-- The errors of the host boundary (rule R456). None of them stops the machine. -/
inductive HostError where
  | romTooLarge
  | romTooSmall
  | ioFailure
  | invalidState
deriving DecidableEq, Repr

/-- The whole state: the two machines, and the scheduler with the host side. -/
structure State where
  gb  : GameBoy
  ch8 : Chip8
  /-- Which machine the scheduler steps (log entry 1). -/
  active : MachineId
  /-- The scheduler's flags (rules R452, R464). -/
  running : Bool
  paused  : Bool
  /-- The steps of the current tick so far, 0 between ticks (rules R430, R340; log entry 14). -/
  tickSteps : Nat
  /-- What the last `step_frame` or `ch8_step_frame` returned (rule R464; log entry 14). -/
  tickReturned : Option Bool
  /-- What the host does at the tick boundaries to come, oldest first (rule R464; log entry 3). -/
  hostCalls : List HostEvent
  /-- The error the last host call raised, if it raised one (rule R456; log entry 14). -/
  hostError : Option HostError
  /-- The parameters of the run (rule R6). -/
  cfg : Config
deriving DecidableEq, Repr

/-- Why the machine stops. -/
inductive Fault where
  /-- Raised by an undefined first byte, with the byte and its address, only under `UNDEF_POLICY = fault` (rule R286), which the
  spec does not take and `State.reset` does not carry. Safe: the machine stops where the default contract goes on. -/
  | undefinedOpcode (op : Byte) (address : Word)
deriving DecidableEq, Repr

/-- Why the model gives no next state. -/
inductive Refusal where
  /-- Raised by `exec` for an instruction whose meaning is not written; no arm raises it. Safe. -/
  | notModelled (mnemonic : String)
deriving DecidableEq, Repr

/-- The Game Boy machine after `reset()` with no ROM image loaded (rule R39). In `mem` nothing is listed: the unlisted bytes read
as the reset contents, `LCDC = 0x91`, `BGP = 0xFC` and 0x00 elsewhere. -/
def GameBoy.initial : GameBoy :=
  { a := 0x01, f := { z := true, n := false, h := true, c := true }, b := 0x00, c := 0x13, d := 0x00, e := 0xD8, h := 0x01,
    l := 0x4D, sp := 0xFFFE, pc := 0x0100, ime := false, halted := false, mem := [], rom := [], romLen := 0, romBank := 1,
    ramEnabled := false, buttons := 0xFF, scanlineCounter := 0, frameReady := false, framebuffer := [], cycles := 0,
    epoch := 0 }

/-- The CHIP-8 machine after `reset()` with no image loaded (rule R50). -/
def Chip8.initial : Chip8 :=
  { memory := [], v := Vector.replicate 16 0, i := 0, pc := 0x200, stack := Vector.replicate 16 0, sp := 0, delay := 0,
    sound := 0, gfx := Vector.replicate 32 0, keys := Vector.replicate 16 false, waitingForKey := false, waitReg := 0,
    rngDraws := 0, image := [], bells := 0 }

/-- The state after reset. No program is in it: an image comes by `load_rom` (log entry 9). -/
def State.reset : State :=
  { gb := GameBoy.initial, ch8 := Chip8.initial, active := .gameBoy, running := true, paused := false, tickSteps := 0,
    tickReturned := none, hostCalls := [], hostError := none, cfg := Config.initial }

end Sys2Proof.Machine
end

