-- ==== Sys2Proof/Machine/Flags.lean ====
section
/-! DEFINITION. The results and flags of the 8-bit ALU, of 16-bit addition, of the rotates and shifts, as functions of
their operands (spec/42_alu8.md rules R170 to R177, R202, R204, R206; spec/43_alu16.md; spec/44_rotate_shift.md). As the rules
do, they compute on natural numbers and narrow at the end. -/

namespace Sys2Proof.Machine

/-- `v & 0x0F` as a number. -/
def lowNibble (v : Byte) : Nat := v.toNat % 16

/-- `add8` (rule R170). -/
def add8 (a v : Byte) : Byte × Flags :=
  let s := a.toNat + v.toNat
  let r := BitVec.ofNat 8 s
  (r, { z := r == 0, n := false, h := decide (lowNibble a + lowNibble v > 0x0F), c := decide (s > 0xFF) })

/-- `adc8` (rule R171). -/
def adc8 (a v : Byte) (c : Bool) : Byte × Flags :=
  let s := a.toNat + v.toNat + c.toNat
  let r := BitVec.ofNat 8 s
  (r, { z := r == 0, n := false, h := decide (lowNibble a + lowNibble v + c.toNat > 0x0F), c := decide (s > 0xFF) })

/-- `sub8` (rule R172). -/
def sub8 (a v : Byte) : Byte × Flags :=
  let r := a - v
  (r, { z := r == 0, n := true, h := decide (lowNibble a < lowNibble v), c := decide (a.toNat < v.toNat) })

/-- `sbc8` (rule R173); `v + c` may be 256. -/
def sbc8 (a v : Byte) (c : Bool) : Byte × Flags :=
  let r := a - v - BitVec.ofNat 8 c.toNat
  (r, { z := r == 0, n := true, h := decide (lowNibble a < lowNibble v + c.toNat),
        c := decide (a.toNat < v.toNat + c.toNat) })

/-- `and8` (rule R174). -/
def and8 (a v : Byte) : Byte × Flags :=
  (a &&& v, { z := a &&& v == 0, n := false, h := true, c := false })

/-- `xor8` (rule R175). -/
def xor8 (a v : Byte) : Byte × Flags :=
  (a ^^^ v, { z := a ^^^ v == 0, n := false, h := false, c := false })

/-- `or8` (rule R176). -/
def or8 (a v : Byte) : Byte × Flags :=
  (a ||| v, { z := a ||| v == 0, n := false, h := false, c := false })

/-- `cp8` (rule R177): the flags of `sub8`; the accumulator keeps its value. -/
def cp8 (a v : Byte) : Byte × Flags := (a, (sub8 a v).2)

/-- The accumulator and flags after an ALU operation (rule R108). -/
def aluResult : AluOp → Byte → Byte → Bool → Byte × Flags
  | .add, a, v, _ => add8 a v
  | .adc, a, v, c => adc8 a v c
  | .sub, a, v, _ => sub8 a v
  | .sbc, a, v, c => sbc8 a v c
  | .and, a, v, _ => and8 a v
  | .xor, a, v, _ => xor8 a v
  | .or, a, v, _ => or8 a v
  | .cp, a, v, _ => cp8 a v

/-- `INC` of a byte: C kept (rule R202). -/
def inc8 (v : Byte) (f : Flags) : Byte × Flags :=
  let r := v + 1
  (r, { f with z := r == 0, n := false, h := decide (lowNibble v = 0x0F) })

/-- `DEC` of a byte: C kept (rule R204). -/
def dec8 (v : Byte) (f : Flags) : Byte × Flags :=
  let r := v - 1
  (r, { f with z := r == 0, n := true, h := decide (lowNibble v = 0x00) })

/-- The addition branch's adjustment of `DAA` (rule R206). -/
def daaAddAdjust (a : Byte) (f : Flags) : Nat :=
  (if f.h ∨ lowNibble a > 0x09 then 0x06 else 0) + (if f.c ∨ a.toNat > 0x99 then 0x60 else 0)

/-- The subtraction branch's adjustment of `DAA`. -/
def daaSubAdjust (f : Flags) : Nat :=
  (if f.h then 0x06 else 0) + (if f.c then 0x60 else 0)

/-- `DAA` (rule R206). -/
def daa8 (a : Byte) (f : Flags) : Byte × Flags :=
  if f.n then
    let r := a - BitVec.ofNat 8 (daaSubAdjust f)
    (r, { f with z := r == 0, h := false })
  else
    let r := a + BitVec.ofNat 8 (daaAddAdjust a f)
    (r, { f with z := r == 0, h := false, c := f.c || decide (a.toNat > 0x99) })

/-- `ADD HL,rr` (rule R220): Z kept, half carry out of bit 11, carry out of bit 15. -/
def add16 (a v : Word) (f : Flags) : Word × Flags :=
  let s := a.toNat + v.toNat
  (BitVec.ofNat 16 s,
   { f with n := false, h := decide (a.toNat % 4096 + v.toNat % 4096 > 0x0FFF), c := decide (s > 0xFFFF) })

/-- The flags of `LD HL,SP+e` and `ADD SP,e` (rules R163, R223): those of the unsigned addition of the low bytes, Z and N 0. -/
def spOffsetFlags (sp : Word) (e : Byte) : Flags :=
  { z := false, n := false, h := decide (sp.toNat % 16 + lowNibble e > 0x0F),
    c := decide (sp.toNat % 256 + e.toNat > 0xFF) }

/-- A bit as the byte 0 or 1. -/
def bitByte (b : Bool) : Byte := if b then 1 else 0

/-- The byte a CB-page rotate or shift gives and the bit it puts in C (rules R235 to R242); `c` is the old carry. -/
def shiftResult : ShiftOp → Byte → Bool → Byte × Bool
  | .rlc, v, _ => ((v <<< 1) ||| bitByte (v.getLsbD 7), v.getLsbD 7)
  | .rrc, v, _ => ((v >>> 1) ||| (bitByte (v.getLsbD 0) <<< 7), v.getLsbD 0)
  | .rl, v, c => ((v <<< 1) ||| bitByte c, v.getLsbD 7)
  | .rr, v, c => ((v >>> 1) ||| (bitByte c <<< 7), v.getLsbD 0)
  | .sla, v, _ => (v <<< 1, v.getLsbD 7)
  | .sra, v, _ => ((v >>> 1) ||| (v &&& 0x80), v.getLsbD 0)
  | .swap, v, _ => (((v <<< 4) &&& 0xF0) ||| (v >>> 4), false)
  | .srl, v, _ => (v >>> 1, v.getLsbD 0)

/-- The flags of a CB-page rotate or shift: Z from the result, N and H 0. -/
def shiftFlags (r : Byte × Bool) : Flags := { z := r.1 == 0, n := false, h := false, c := r.2 }

/-- The flags of a one-byte rotate of `A` (rules R230 to R233): Z is 0. -/
def rotateAFlags (r : Byte × Bool) : Flags := { z := false, n := false, h := false, c := r.2 }

end Sys2Proof.Machine
end

