-- ==== Sys2Proof/WellFormed.lean ====
section
/-! DEFINITION. Which terms of `Instr` stand for an instruction of the opcode table. The types hold every other bound. -/

namespace Sys2Proof

/-- `SYS nnn` is every word of major 0 "except 0x0E0 and 0x0EE", which are `CLS` and `RET` (spec/49_chip8.md rule R304). -/
def sysOperandOk (nnn : Addr12) : Bool :=
  nnn != 0x0E0 && nnn != 0x0EE

/-- An instruction term is well formed: the only operand its type does not bound is that of `SYS`. -/
def Instr.wellFormed : Instr → Bool
  | .ch8_sys_nnn nnn => sysOperandOk nnn
  | _ => true

end Sys2Proof
end

