-- ==== Sys2Proof/Decode.lean ====
section
/-! DEFINITION. The decoder and the encoder. The decoder follows the field patterns of spec/30_encoding.md rules R102 to R111 and
the word table of spec/49_chip8.md rule R346; the encoder writes each row's bytes as spec/opcode_table.json gives them, so the two
are written from different tables of the spec. -/

namespace Sys2Proof

/-! ## Byte order and bit fields -/

/-- Bits 7 to 0 of a word. -/
def lowByte (w : Word) : Byte := w.setWidth 8

/-- Bits 15 to 8 of a word. -/
def highByte (w : Word) : Byte := (w >>> 8).setWidth 8

/-- The word `{hi, lo}` (rule R8's concatenation). -/
def joinBytes (hi lo : Byte) : Word := hi ++ lo

/-- The two bytes of a CHIP-8 instruction word as memory holds them, high byte first (spec/49_chip8.md rule R300). -/
def wordBytes (w : Word) : List Byte := [highByte w, lowByte w]

/-- Field `x = op[7:6]` (rule R102). -/
def fieldX (op : Byte) : Nat := op.toNat / 64

/-- Field `y = op[5:3]`. -/
def fieldY (op : Byte) : Nat := op.toNat / 8 % 8

/-- Field `z = op[2:0]`. -/
def fieldZ (op : Byte) : Nat := op.toNat % 8

/-- Field `p = op[5:4]`. -/
def fieldP (op : Byte) : Nat := op.toNat / 16 % 4

/-- Field `q = op[3]`. -/
def fieldQ (op : Byte) : Nat := op.toNat / 8 % 2

/-! ## Operand codes (rules R104 to R108, R111) -/

/-- The operand of a 3-bit code (rule R104). -/
def Operand.ofCode : Nat → Operand
  | 0 => .reg .b
  | 1 => .reg .c
  | 2 => .reg .d
  | 3 => .reg .e
  | 4 => .reg .h
  | 5 => .reg .l
  | 6 => .atHL
  | _ => .reg .a

/-- The pair of a 2-bit code (rule R105). -/
def R16.ofCode : Nat → R16
  | 0 => .bc
  | 1 => .de
  | 2 => .hl
  | _ => .sp

/-- The pair of a 2-bit code of `PUSH` and `POP` (rule R106). -/
def R16Stk.ofCode : Nat → R16Stk
  | 0 => .bc
  | 1 => .de
  | 2 => .hl
  | _ => .af

/-- The condition of a 2-bit code (rule R107). -/
def Cond.ofCode : Nat → Cond
  | 0 => .nz
  | 1 => .z
  | 2 => .nc
  | _ => .c

/-- The ALU operation of a 3-bit code (rule R108). -/
def AluOp.ofCode : Nat → AluOp
  | 0 => .add
  | 1 => .adc
  | 2 => .sub
  | 3 => .sbc
  | 4 => .and
  | 5 => .xor
  | 6 => .or
  | _ => .cp

/-- The CB-page rotate or shift of a 3-bit code (rule R111). -/
def ShiftOp.ofCode : Nat → ShiftOp
  | 0 => .rlc
  | 1 => .rrc
  | 2 => .rl
  | 3 => .rr
  | 4 => .sla
  | 5 => .sra
  | 6 => .swap
  | _ => .srl

/-- The 3-bit code of a register (rule R104). -/
def R8.code : R8 → Nat
  | .b => 0
  | .c => 1
  | .d => 2
  | .e => 3
  | .h => 4
  | .l => 5
  | .a => 7

/-- The 3-bit code of an operand (rule R104): 6 is `(HL)`. -/
def Operand.code : Operand → Nat
  | .reg r => r.code
  | .atHL => 6

/-- The 2-bit code of a pair (rule R105). -/
def R16.code : R16 → Nat
  | .bc => 0
  | .de => 1
  | .hl => 2
  | .sp => 3

/-- The 2-bit code of a pair of `PUSH` and `POP` (rule R106). -/
def R16Stk.code : R16Stk → Nat
  | .bc => 0
  | .de => 1
  | .hl => 2
  | .af => 3

/-- The 2-bit code of a condition (rule R107). -/
def Cond.code : Cond → Nat
  | .nz => 0
  | .z => 1
  | .nc => 2
  | .c => 3

/-- The 3-bit code of an ALU operation (rule R108). -/
def AluOp.code : AluOp → Nat
  | .add => 0
  | .adc => 1
  | .sub => 2
  | .sbc => 3
  | .and => 4
  | .xor => 5
  | .or => 6
  | .cp => 7

/-- The 3-bit code of a CB-page rotate or shift (rule R111). -/
def ShiftOp.code : ShiftOp → Nat
  | .rlc => 0
  | .rrc => 1
  | .rl => 2
  | .rr => 3
  | .sla => 4
  | .sra => 5
  | .swap => 6
  | .srl => 7

/-! ## The table's rows by family and operand code -/

/-- `LD r,r'` by destination and source (rule R110, `01 ddd sss`). -/
def Instr.ldRR : R8 → R8 → Instr
  | .b, .b => .ld_B_B
  | .b, .c => .ld_B_C
  | .b, .d => .ld_B_D
  | .b, .e => .ld_B_E
  | .b, .h => .ld_B_H
  | .b, .l => .ld_B_L
  | .b, .a => .ld_B_A
  | .c, .b => .ld_C_B
  | .c, .c => .ld_C_C
  | .c, .d => .ld_C_D
  | .c, .e => .ld_C_E
  | .c, .h => .ld_C_H
  | .c, .l => .ld_C_L
  | .c, .a => .ld_C_A
  | .d, .b => .ld_D_B
  | .d, .c => .ld_D_C
  | .d, .d => .ld_D_D
  | .d, .e => .ld_D_E
  | .d, .h => .ld_D_H
  | .d, .l => .ld_D_L
  | .d, .a => .ld_D_A
  | .e, .b => .ld_E_B
  | .e, .c => .ld_E_C
  | .e, .d => .ld_E_D
  | .e, .e => .ld_E_E
  | .e, .h => .ld_E_H
  | .e, .l => .ld_E_L
  | .e, .a => .ld_E_A
  | .h, .b => .ld_H_B
  | .h, .c => .ld_H_C
  | .h, .d => .ld_H_D
  | .h, .e => .ld_H_E
  | .h, .h => .ld_H_H
  | .h, .l => .ld_H_L
  | .h, .a => .ld_H_A
  | .l, .b => .ld_L_B
  | .l, .c => .ld_L_C
  | .l, .d => .ld_L_D
  | .l, .e => .ld_L_E
  | .l, .h => .ld_L_H
  | .l, .l => .ld_L_L
  | .l, .a => .ld_L_A
  | .a, .b => .ld_A_B
  | .a, .c => .ld_A_C
  | .a, .d => .ld_A_D
  | .a, .e => .ld_A_E
  | .a, .h => .ld_A_H
  | .a, .l => .ld_A_L
  | .a, .a => .ld_A_A

/-- `LD r,n` (`00 rrr 110`). -/
def Instr.ldRN : R8 → Byte → Instr
  | .b, n => .ld_B_n n
  | .c, n => .ld_C_n n
  | .d, n => .ld_D_n n
  | .e, n => .ld_E_n n
  | .h, n => .ld_H_n n
  | .l, n => .ld_L_n n
  | .a, n => .ld_A_n n

/-- `LD r,(HL)` (`01 ddd 110`). -/
def Instr.ldRHL : R8 → Instr
  | .b => .ld_B_atHL
  | .c => .ld_C_atHL
  | .d => .ld_D_atHL
  | .e => .ld_E_atHL
  | .h => .ld_H_atHL
  | .l => .ld_L_atHL
  | .a => .ld_A_atHL

/-- `LD (HL),r` (`01 110 sss`). -/
def Instr.ldHLR : R8 → Instr
  | .b => .ld_atHL_B
  | .c => .ld_atHL_C
  | .d => .ld_atHL_D
  | .e => .ld_atHL_E
  | .h => .ld_atHL_H
  | .l => .ld_atHL_L
  | .a => .ld_atHL_A

/-- `INC r`, `INC (HL)` (`00 rrr 100`). -/
def Instr.incOp : Operand → Instr
  | .reg .b => .inc_B
  | .reg .c => .inc_C
  | .reg .d => .inc_D
  | .reg .e => .inc_E
  | .reg .h => .inc_H
  | .reg .l => .inc_L
  | .reg .a => .inc_A
  | .atHL => .inc_atHL

/-- `DEC r`, `DEC (HL)` (`00 rrr 101`). -/
def Instr.decOp : Operand → Instr
  | .reg .b => .dec_B
  | .reg .c => .dec_C
  | .reg .d => .dec_D
  | .reg .e => .dec_E
  | .reg .h => .dec_H
  | .reg .l => .dec_L
  | .reg .a => .dec_A
  | .atHL => .dec_atHL

/-- The ALU instructions on a register or `(HL)` (`10 yyy zzz`, rule R108). -/
def Instr.aluOp : AluOp → Operand → Instr
  | .add, .reg .b => .add_A_B
  | .add, .reg .c => .add_A_C
  | .add, .reg .d => .add_A_D
  | .add, .reg .e => .add_A_E
  | .add, .reg .h => .add_A_H
  | .add, .reg .l => .add_A_L
  | .add, .reg .a => .add_A_A
  | .add, .atHL => .add_A_atHL
  | .adc, .reg .b => .adc_A_B
  | .adc, .reg .c => .adc_A_C
  | .adc, .reg .d => .adc_A_D
  | .adc, .reg .e => .adc_A_E
  | .adc, .reg .h => .adc_A_H
  | .adc, .reg .l => .adc_A_L
  | .adc, .reg .a => .adc_A_A
  | .adc, .atHL => .adc_A_atHL
  | .sub, .reg .b => .sub_B
  | .sub, .reg .c => .sub_C
  | .sub, .reg .d => .sub_D
  | .sub, .reg .e => .sub_E
  | .sub, .reg .h => .sub_H
  | .sub, .reg .l => .sub_L
  | .sub, .reg .a => .sub_A
  | .sub, .atHL => .sub_atHL
  | .sbc, .reg .b => .sbc_A_B
  | .sbc, .reg .c => .sbc_A_C
  | .sbc, .reg .d => .sbc_A_D
  | .sbc, .reg .e => .sbc_A_E
  | .sbc, .reg .h => .sbc_A_H
  | .sbc, .reg .l => .sbc_A_L
  | .sbc, .reg .a => .sbc_A_A
  | .sbc, .atHL => .sbc_A_atHL
  | .and, .reg .b => .and_B
  | .and, .reg .c => .and_C
  | .and, .reg .d => .and_D
  | .and, .reg .e => .and_E
  | .and, .reg .h => .and_H
  | .and, .reg .l => .and_L
  | .and, .reg .a => .and_A
  | .and, .atHL => .and_atHL
  | .xor, .reg .b => .xor_B
  | .xor, .reg .c => .xor_C
  | .xor, .reg .d => .xor_D
  | .xor, .reg .e => .xor_E
  | .xor, .reg .h => .xor_H
  | .xor, .reg .l => .xor_L
  | .xor, .reg .a => .xor_A
  | .xor, .atHL => .xor_atHL
  | .or, .reg .b => .or_B
  | .or, .reg .c => .or_C
  | .or, .reg .d => .or_D
  | .or, .reg .e => .or_E
  | .or, .reg .h => .or_H
  | .or, .reg .l => .or_L
  | .or, .reg .a => .or_A
  | .or, .atHL => .or_atHL
  | .cp, .reg .b => .cp_B
  | .cp, .reg .c => .cp_C
  | .cp, .reg .d => .cp_D
  | .cp, .reg .e => .cp_E
  | .cp, .reg .h => .cp_H
  | .cp, .reg .l => .cp_L
  | .cp, .reg .a => .cp_A
  | .cp, .atHL => .cp_atHL

/-- The ALU instructions on an immediate (`11 yyy 110`). -/
def Instr.aluImm : AluOp → Byte → Instr
  | .add, n => .add_A_n n
  | .adc, n => .adc_A_n n
  | .sub, n => .sub_n n
  | .sbc, n => .sbc_A_n n
  | .and, n => .and_n n
  | .xor, n => .xor_n n
  | .or, n => .or_n n
  | .cp, n => .cp_n n

/-- `LD rr,nn` (`00 pp0 001`, rule R105). -/
def Instr.ldRRnn : R16 → Word → Instr
  | .bc, nn => .ld_BC_nn nn
  | .de, nn => .ld_DE_nn nn
  | .hl, nn => .ld_HL_nn nn
  | .sp, nn => .ld_SP_nn nn

/-- `ADD HL,rr` (`00 pp1 001`). -/
def Instr.addHLrr : R16 → Instr
  | .bc => .add_HL_BC
  | .de => .add_HL_DE
  | .hl => .add_HL_HL
  | .sp => .add_HL_SP

/-- `INC rr` (`00 pp0 011`). -/
def Instr.incRR : R16 → Instr
  | .bc => .inc_BC
  | .de => .inc_DE
  | .hl => .inc_HL
  | .sp => .inc_SP

/-- `DEC rr` (`00 pp1 011`). -/
def Instr.decRR : R16 → Instr
  | .bc => .dec_BC
  | .de => .dec_DE
  | .hl => .dec_HL
  | .sp => .dec_SP

/-- `PUSH r16stk` (`11 pp0 101`, rule R106). -/
def Instr.pushRR : R16Stk → Instr
  | .bc => .push_BC
  | .de => .push_DE
  | .hl => .push_HL
  | .af => .push_AF

/-- `POP r16stk` (`11 pp0 001`). -/
def Instr.popRR : R16Stk → Instr
  | .bc => .pop_BC
  | .de => .pop_DE
  | .hl => .pop_HL
  | .af => .pop_AF

/-- `JR cc,e` (`00 1cc 000`, rule R107). -/
def Instr.jrCC : Cond → Byte → Instr
  | .nz, e => .jr_NZ_e e
  | .z, e => .jr_Z_e e
  | .nc, e => .jr_NC_e e
  | .c, e => .jr_C_e e

/-- `JP cc,nn` (`11 0cc 010`). -/
def Instr.jpCC : Cond → Word → Instr
  | .nz, nn => .jp_NZ_nn nn
  | .z, nn => .jp_Z_nn nn
  | .nc, nn => .jp_NC_nn nn
  | .c, nn => .jp_C_nn nn

/-- `CALL cc,nn` (`11 0cc 100`). -/
def Instr.callCC : Cond → Word → Instr
  | .nz, nn => .call_NZ_nn nn
  | .z, nn => .call_Z_nn nn
  | .nc, nn => .call_NC_nn nn
  | .c, nn => .call_C_nn nn

/-- `RET cc` (`11 0cc 000`). -/
def Instr.retCC : Cond → Instr
  | .nz => .ret_NZ
  | .z => .ret_Z
  | .nc => .ret_NC
  | .c => .ret_C

/-- `RST t` with `t = ttt * 8` (`11 ttt 111`). -/
def Instr.rstT : Fin 8 → Instr
  | 0 => .rst_00
  | 1 => .rst_08
  | 2 => .rst_10
  | 3 => .rst_18
  | 4 => .rst_20
  | 5 => .rst_28
  | 6 => .rst_30
  | 7 => .rst_38

/-- The CB-page rotates and shifts (`00 yyy zzz`, rule R111). -/
def Instr.shiftOp : ShiftOp → Operand → Instr
  | .rlc, .reg .b => .rlc_B
  | .rlc, .reg .c => .rlc_C
  | .rlc, .reg .d => .rlc_D
  | .rlc, .reg .e => .rlc_E
  | .rlc, .reg .h => .rlc_H
  | .rlc, .reg .l => .rlc_L
  | .rlc, .reg .a => .rlc_A
  | .rlc, .atHL => .rlc_atHL
  | .rrc, .reg .b => .rrc_B
  | .rrc, .reg .c => .rrc_C
  | .rrc, .reg .d => .rrc_D
  | .rrc, .reg .e => .rrc_E
  | .rrc, .reg .h => .rrc_H
  | .rrc, .reg .l => .rrc_L
  | .rrc, .reg .a => .rrc_A
  | .rrc, .atHL => .rrc_atHL
  | .rl, .reg .b => .rl_B
  | .rl, .reg .c => .rl_C
  | .rl, .reg .d => .rl_D
  | .rl, .reg .e => .rl_E
  | .rl, .reg .h => .rl_H
  | .rl, .reg .l => .rl_L
  | .rl, .reg .a => .rl_A
  | .rl, .atHL => .rl_atHL
  | .rr, .reg .b => .rr_B
  | .rr, .reg .c => .rr_C
  | .rr, .reg .d => .rr_D
  | .rr, .reg .e => .rr_E
  | .rr, .reg .h => .rr_H
  | .rr, .reg .l => .rr_L
  | .rr, .reg .a => .rr_A
  | .rr, .atHL => .rr_atHL
  | .sla, .reg .b => .sla_B
  | .sla, .reg .c => .sla_C
  | .sla, .reg .d => .sla_D
  | .sla, .reg .e => .sla_E
  | .sla, .reg .h => .sla_H
  | .sla, .reg .l => .sla_L
  | .sla, .reg .a => .sla_A
  | .sla, .atHL => .sla_atHL
  | .sra, .reg .b => .sra_B
  | .sra, .reg .c => .sra_C
  | .sra, .reg .d => .sra_D
  | .sra, .reg .e => .sra_E
  | .sra, .reg .h => .sra_H
  | .sra, .reg .l => .sra_L
  | .sra, .reg .a => .sra_A
  | .sra, .atHL => .sra_atHL
  | .swap, .reg .b => .swap_B
  | .swap, .reg .c => .swap_C
  | .swap, .reg .d => .swap_D
  | .swap, .reg .e => .swap_E
  | .swap, .reg .h => .swap_H
  | .swap, .reg .l => .swap_L
  | .swap, .reg .a => .swap_A
  | .swap, .atHL => .swap_atHL
  | .srl, .reg .b => .srl_B
  | .srl, .reg .c => .srl_C
  | .srl, .reg .d => .srl_D
  | .srl, .reg .e => .srl_E
  | .srl, .reg .h => .srl_H
  | .srl, .reg .l => .srl_L
  | .srl, .reg .a => .srl_A
  | .srl, .atHL => .srl_atHL

/-- `BIT 0,x` (`01 000 zzz`). -/
def Instr.bitOp0 : Operand → Instr
  | .reg .b => .bit_0_B
  | .reg .c => .bit_0_C
  | .reg .d => .bit_0_D
  | .reg .e => .bit_0_E
  | .reg .h => .bit_0_H
  | .reg .l => .bit_0_L
  | .reg .a => .bit_0_A
  | .atHL => .bit_0_atHL

/-- `BIT 1,x` (`01 001 zzz`). -/
def Instr.bitOp1 : Operand → Instr
  | .reg .b => .bit_1_B
  | .reg .c => .bit_1_C
  | .reg .d => .bit_1_D
  | .reg .e => .bit_1_E
  | .reg .h => .bit_1_H
  | .reg .l => .bit_1_L
  | .reg .a => .bit_1_A
  | .atHL => .bit_1_atHL

/-- `BIT 2,x` (`01 010 zzz`). -/
def Instr.bitOp2 : Operand → Instr
  | .reg .b => .bit_2_B
  | .reg .c => .bit_2_C
  | .reg .d => .bit_2_D
  | .reg .e => .bit_2_E
  | .reg .h => .bit_2_H
  | .reg .l => .bit_2_L
  | .reg .a => .bit_2_A
  | .atHL => .bit_2_atHL

/-- `BIT 3,x` (`01 011 zzz`). -/
def Instr.bitOp3 : Operand → Instr
  | .reg .b => .bit_3_B
  | .reg .c => .bit_3_C
  | .reg .d => .bit_3_D
  | .reg .e => .bit_3_E
  | .reg .h => .bit_3_H
  | .reg .l => .bit_3_L
  | .reg .a => .bit_3_A
  | .atHL => .bit_3_atHL

/-- `BIT 4,x` (`01 100 zzz`). -/
def Instr.bitOp4 : Operand → Instr
  | .reg .b => .bit_4_B
  | .reg .c => .bit_4_C
  | .reg .d => .bit_4_D
  | .reg .e => .bit_4_E
  | .reg .h => .bit_4_H
  | .reg .l => .bit_4_L
  | .reg .a => .bit_4_A
  | .atHL => .bit_4_atHL

/-- `BIT 5,x` (`01 101 zzz`). -/
def Instr.bitOp5 : Operand → Instr
  | .reg .b => .bit_5_B
  | .reg .c => .bit_5_C
  | .reg .d => .bit_5_D
  | .reg .e => .bit_5_E
  | .reg .h => .bit_5_H
  | .reg .l => .bit_5_L
  | .reg .a => .bit_5_A
  | .atHL => .bit_5_atHL

/-- `BIT 6,x` (`01 110 zzz`). -/
def Instr.bitOp6 : Operand → Instr
  | .reg .b => .bit_6_B
  | .reg .c => .bit_6_C
  | .reg .d => .bit_6_D
  | .reg .e => .bit_6_E
  | .reg .h => .bit_6_H
  | .reg .l => .bit_6_L
  | .reg .a => .bit_6_A
  | .atHL => .bit_6_atHL

/-- `BIT 7,x` (`01 111 zzz`). -/
def Instr.bitOp7 : Operand → Instr
  | .reg .b => .bit_7_B
  | .reg .c => .bit_7_C
  | .reg .d => .bit_7_D
  | .reg .e => .bit_7_E
  | .reg .h => .bit_7_H
  | .reg .l => .bit_7_L
  | .reg .a => .bit_7_A
  | .atHL => .bit_7_atHL

/-- `BIT b,x` by bit number (`01 bbb zzz`). -/
def Instr.bitOp : Fin 8 → Operand → Instr
  | 0, x => bitOp0 x
  | 1, x => bitOp1 x
  | 2, x => bitOp2 x
  | 3, x => bitOp3 x
  | 4, x => bitOp4 x
  | 5, x => bitOp5 x
  | 6, x => bitOp6 x
  | 7, x => bitOp7 x

/-- `RES 0,x` (`10 000 zzz`). -/
def Instr.resOp0 : Operand → Instr
  | .reg .b => .res_0_B
  | .reg .c => .res_0_C
  | .reg .d => .res_0_D
  | .reg .e => .res_0_E
  | .reg .h => .res_0_H
  | .reg .l => .res_0_L
  | .reg .a => .res_0_A
  | .atHL => .res_0_atHL

/-- `RES 1,x` (`10 001 zzz`). -/
def Instr.resOp1 : Operand → Instr
  | .reg .b => .res_1_B
  | .reg .c => .res_1_C
  | .reg .d => .res_1_D
  | .reg .e => .res_1_E
  | .reg .h => .res_1_H
  | .reg .l => .res_1_L
  | .reg .a => .res_1_A
  | .atHL => .res_1_atHL

/-- `RES 2,x` (`10 010 zzz`). -/
def Instr.resOp2 : Operand → Instr
  | .reg .b => .res_2_B
  | .reg .c => .res_2_C
  | .reg .d => .res_2_D
  | .reg .e => .res_2_E
  | .reg .h => .res_2_H
  | .reg .l => .res_2_L
  | .reg .a => .res_2_A
  | .atHL => .res_2_atHL

/-- `RES 3,x` (`10 011 zzz`). -/
def Instr.resOp3 : Operand → Instr
  | .reg .b => .res_3_B
  | .reg .c => .res_3_C
  | .reg .d => .res_3_D
  | .reg .e => .res_3_E
  | .reg .h => .res_3_H
  | .reg .l => .res_3_L
  | .reg .a => .res_3_A
  | .atHL => .res_3_atHL

/-- `RES 4,x` (`10 100 zzz`). -/
def Instr.resOp4 : Operand → Instr
  | .reg .b => .res_4_B
  | .reg .c => .res_4_C
  | .reg .d => .res_4_D
  | .reg .e => .res_4_E
  | .reg .h => .res_4_H
  | .reg .l => .res_4_L
  | .reg .a => .res_4_A
  | .atHL => .res_4_atHL

/-- `RES 5,x` (`10 101 zzz`). -/
def Instr.resOp5 : Operand → Instr
  | .reg .b => .res_5_B
  | .reg .c => .res_5_C
  | .reg .d => .res_5_D
  | .reg .e => .res_5_E
  | .reg .h => .res_5_H
  | .reg .l => .res_5_L
  | .reg .a => .res_5_A
  | .atHL => .res_5_atHL

/-- `RES 6,x` (`10 110 zzz`). -/
def Instr.resOp6 : Operand → Instr
  | .reg .b => .res_6_B
  | .reg .c => .res_6_C
  | .reg .d => .res_6_D
  | .reg .e => .res_6_E
  | .reg .h => .res_6_H
  | .reg .l => .res_6_L
  | .reg .a => .res_6_A
  | .atHL => .res_6_atHL

/-- `RES 7,x` (`10 111 zzz`). -/
def Instr.resOp7 : Operand → Instr
  | .reg .b => .res_7_B
  | .reg .c => .res_7_C
  | .reg .d => .res_7_D
  | .reg .e => .res_7_E
  | .reg .h => .res_7_H
  | .reg .l => .res_7_L
  | .reg .a => .res_7_A
  | .atHL => .res_7_atHL

/-- `RES b,x` by bit number (`10 bbb zzz`). -/
def Instr.resOp : Fin 8 → Operand → Instr
  | 0, x => resOp0 x
  | 1, x => resOp1 x
  | 2, x => resOp2 x
  | 3, x => resOp3 x
  | 4, x => resOp4 x
  | 5, x => resOp5 x
  | 6, x => resOp6 x
  | 7, x => resOp7 x

/-- `SET 0,x` (`11 000 zzz`). -/
def Instr.setOp0 : Operand → Instr
  | .reg .b => .set_0_B
  | .reg .c => .set_0_C
  | .reg .d => .set_0_D
  | .reg .e => .set_0_E
  | .reg .h => .set_0_H
  | .reg .l => .set_0_L
  | .reg .a => .set_0_A
  | .atHL => .set_0_atHL

/-- `SET 1,x` (`11 001 zzz`). -/
def Instr.setOp1 : Operand → Instr
  | .reg .b => .set_1_B
  | .reg .c => .set_1_C
  | .reg .d => .set_1_D
  | .reg .e => .set_1_E
  | .reg .h => .set_1_H
  | .reg .l => .set_1_L
  | .reg .a => .set_1_A
  | .atHL => .set_1_atHL

/-- `SET 2,x` (`11 010 zzz`). -/
def Instr.setOp2 : Operand → Instr
  | .reg .b => .set_2_B
  | .reg .c => .set_2_C
  | .reg .d => .set_2_D
  | .reg .e => .set_2_E
  | .reg .h => .set_2_H
  | .reg .l => .set_2_L
  | .reg .a => .set_2_A
  | .atHL => .set_2_atHL

/-- `SET 3,x` (`11 011 zzz`). -/
def Instr.setOp3 : Operand → Instr
  | .reg .b => .set_3_B
  | .reg .c => .set_3_C
  | .reg .d => .set_3_D
  | .reg .e => .set_3_E
  | .reg .h => .set_3_H
  | .reg .l => .set_3_L
  | .reg .a => .set_3_A
  | .atHL => .set_3_atHL

/-- `SET 4,x` (`11 100 zzz`). -/
def Instr.setOp4 : Operand → Instr
  | .reg .b => .set_4_B
  | .reg .c => .set_4_C
  | .reg .d => .set_4_D
  | .reg .e => .set_4_E
  | .reg .h => .set_4_H
  | .reg .l => .set_4_L
  | .reg .a => .set_4_A
  | .atHL => .set_4_atHL

/-- `SET 5,x` (`11 101 zzz`). -/
def Instr.setOp5 : Operand → Instr
  | .reg .b => .set_5_B
  | .reg .c => .set_5_C
  | .reg .d => .set_5_D
  | .reg .e => .set_5_E
  | .reg .h => .set_5_H
  | .reg .l => .set_5_L
  | .reg .a => .set_5_A
  | .atHL => .set_5_atHL

/-- `SET 6,x` (`11 110 zzz`). -/
def Instr.setOp6 : Operand → Instr
  | .reg .b => .set_6_B
  | .reg .c => .set_6_C
  | .reg .d => .set_6_D
  | .reg .e => .set_6_E
  | .reg .h => .set_6_H
  | .reg .l => .set_6_L
  | .reg .a => .set_6_A
  | .atHL => .set_6_atHL

/-- `SET 7,x` (`11 111 zzz`). -/
def Instr.setOp7 : Operand → Instr
  | .reg .b => .set_7_B
  | .reg .c => .set_7_C
  | .reg .d => .set_7_D
  | .reg .e => .set_7_E
  | .reg .h => .set_7_H
  | .reg .l => .set_7_L
  | .reg .a => .set_7_A
  | .atHL => .set_7_atHL

/-- `SET b,x` by bit number (`11 bbb zzz`). -/
def Instr.setOp : Fin 8 → Operand → Instr
  | 0, x => setOp0 x
  | 1, x => setOp1 x
  | 2, x => setOp2 x
  | 3, x => setOp3 x
  | 4, x => setOp4 x
  | 5, x => setOp5 x
  | 6, x => setOp6 x
  | 7, x => setOp7 x

/-- The eleven undefined first bytes (rule R112), each with the instruction its row of the table stands for. -/
def undefinedOpcodes : List (Byte × Instr) :=
  [(0xD3, .undefined_D3),
   (0xDB, .undefined_DB),
   (0xDD, .undefined_DD),
   (0xE3, .undefined_E3),
   (0xE4, .undefined_E4),
   (0xEB, .undefined_EB),
   (0xEC, .undefined_EC),
   (0xED, .undefined_ED),
   (0xF4, .undefined_F4),
   (0xFC, .undefined_FC),
   (0xFD, .undefined_FD)]

/-! ## Decoding the LR35902 -/

/-- Why a byte string decodes to no instruction. -/
inductive DecodeError where
  /-- The bytes end before the instruction does. -/
  | truncated
  /-- A CHIP-8 word that matches no row of rule R346 (spec/49_chip8.md rule R303: ignored by the machine). -/
  | unknownChip8 (op : Word)
deriving DecidableEq, Repr

/-- What a first byte selects: an instruction, or an instruction that still takes its immediate (rule R101), or the CB page. -/
inductive PageEntry where
  | op (i : Instr)
  | opN (f : Byte → Instr)
  | opE (f : Byte → Instr)
  | opNN (f : Word → Instr)
  | cb

/-- Block `x = 0` of the primary page (rule R110). -/
def primaryBlock0 (op : Byte) : PageEntry :=
  match fieldZ op, fieldY op with
  | 0, 0 => .op .nop
  | 0, 1 => .opNN .ld_at_nn_SP
  | 0, 2 => .op .stop
  | 0, 3 => .opE .jr_e
  | 0, y => .opE (Instr.jrCC (Cond.ofCode (y - 4)))
  | 1, _ =>
    if fieldQ op = 0 then .opNN (Instr.ldRRnn (R16.ofCode (fieldP op))) else .op (Instr.addHLrr (R16.ofCode (fieldP op)))
  | 2, 0 => .op .ld_atBC_A
  | 2, 1 => .op .ld_A_atBC
  | 2, 2 => .op .ld_atDE_A
  | 2, 3 => .op .ld_A_atDE
  | 2, 4 => .op .ld_atHLinc_A
  | 2, 5 => .op .ld_A_atHLinc
  | 2, 6 => .op .ld_atHLdec_A
  | 2, _ => .op .ld_A_atHLdec
  | 3, _ => if fieldQ op = 0 then .op (Instr.incRR (R16.ofCode (fieldP op))) else .op (Instr.decRR (R16.ofCode (fieldP op)))
  | 4, y => .op (Instr.incOp (Operand.ofCode y))
  | 5, y => .op (Instr.decOp (Operand.ofCode y))
  | 6, y =>
    match Operand.ofCode y with
    | .reg r => .opN (Instr.ldRN r)
    | .atHL => .opN .ld_atHL_n
  | _, 0 => .op .rlca
  | _, 1 => .op .rrca
  | _, 2 => .op .rla
  | _, 3 => .op .rra
  | _, 4 => .op .daa
  | _, 5 => .op .cpl
  | _, 6 => .op .scf
  | _, _ => .op .ccf

/-- Block `x = 1`: `LD r,r'`, `LD r,(HL)`, `LD (HL),r`, and `HALT` in the slot of `LD (HL),(HL)`. -/
def primaryBlock1 (op : Byte) : PageEntry :=
  match Operand.ofCode (fieldY op), Operand.ofCode (fieldZ op) with
  | .reg dst, .reg src => .op (Instr.ldRR dst src)
  | .reg dst, .atHL => .op (Instr.ldRHL dst)
  | .atHL, .reg src => .op (Instr.ldHLR src)
  | .atHL, .atHL => .op .halt

/-- Block `x = 3`: control, stack, immediate ALU, and the eleven undefined bytes (rules R110, R112). -/
def primaryBlock3 (op : Byte) : PageEntry :=
  match fieldZ op, fieldY op with
  | 0, 4 => .opN .ldh_at_n_A
  | 0, 5 => .opE .add_SP_e
  | 0, 6 => .opN .ldh_A_at_n
  | 0, 7 => .opE .ld_HL_SPe
  | 0, y => .op (Instr.retCC (Cond.ofCode y))
  | 1, 1 => .op .ret
  | 1, 3 => .op .reti
  | 1, 5 => .op .jp_HL
  | 1, 7 => .op .ld_SP_HL
  | 1, _ => .op (Instr.popRR (R16Stk.ofCode (fieldP op)))
  | 2, 4 => .op .ld_atC_A
  | 2, 5 => .opNN .ld_at_nn_A
  | 2, 6 => .op .ld_A_atC
  | 2, 7 => .opNN .ld_A_at_nn
  | 2, y => .opNN (Instr.jpCC (Cond.ofCode y))
  | 3, 0 => .opNN .jp_nn
  | 3, 1 => .cb
  | 3, 2 => .op .undefined_D3
  | 3, 3 => .op .undefined_DB
  | 3, 4 => .op .undefined_E3
  | 3, 5 => .op .undefined_EB
  | 3, 6 => .op .di
  | 3, _ => .op .ei
  | 4, 4 => .op .undefined_E4
  | 4, 5 => .op .undefined_EC
  | 4, 6 => .op .undefined_F4
  | 4, 7 => .op .undefined_FC
  | 4, y => .opNN (Instr.callCC (Cond.ofCode y))
  | 5, 1 => .opNN .call_nn
  | 5, 3 => .op .undefined_DD
  | 5, 5 => .op .undefined_ED
  | 5, 7 => .op .undefined_FD
  | 5, _ => .op (Instr.pushRR (R16Stk.ofCode (fieldP op)))
  | 6, y => .opN (Instr.aluImm (AluOp.ofCode y))
  | _, y => .op (Instr.rstT (Fin.ofNat 8 y))

/-- The primary page (rule R110): every first byte selects something. -/
def primaryEntry (op : Byte) : PageEntry :=
  match fieldX op with
  | 0 => primaryBlock0 op
  | 1 => primaryBlock1 op
  | 2 => .op (Instr.aluOp (AluOp.ofCode (fieldY op)) (Operand.ofCode (fieldZ op)))
  | _ => primaryBlock3 op

/-- The CB page (rule R111): every second byte is an instruction. -/
def cbInstr (op2 : Byte) : Instr :=
  match fieldX op2 with
  | 0 => Instr.shiftOp (ShiftOp.ofCode (fieldY op2)) (Operand.ofCode (fieldZ op2))
  | 1 => Instr.bitOp (Fin.ofNat 8 (fieldY op2)) (Operand.ofCode (fieldZ op2))
  | 2 => Instr.resOp (Fin.ofNat 8 (fieldY op2)) (Operand.ofCode (fieldZ op2))
  | _ => Instr.setOp (Fin.ofNat 8 (fieldY op2)) (Operand.ofCode (fieldZ op2))

/-- One LR35902 instruction from the bytes at its address, lowest first, with the bytes after it (rule R103). A lone 0xCB is the
table's one-byte row `PREFIX CB` (log entry 15); with a byte after it, it is that byte's CB-page instruction. -/
def decodeGb : List Byte → Except DecodeError (Instr × List Byte)
  | [] => .error .truncated
  | op :: rest =>
    match primaryEntry op, rest with
    | .op i, rest => .ok (i, rest)
    | .opN f, n :: rest => .ok (f n, rest)
    | .opE f, e :: rest => .ok (f e, rest)
    | .opNN f, lo :: hi :: rest => .ok (f (joinBytes hi lo), rest)
    | .cb, op2 :: rest => .ok (cbInstr op2, rest)
    | .cb, [] => .ok (.prefixCb, [])
    | _, _ => .error .truncated

/-! ## Decoding CHIP-8 -/

/-- Field `nnn = op[11:0]` (spec/49_chip8.md rule R301). -/
def ch8Nnn (op : Word) : Addr12 := op.setWidth 12

/-- Field `x = op[11:8]`. -/
def ch8X (op : Word) : Nibble := (op >>> 8).setWidth 4

/-- Field `y = op[7:4]`. -/
def ch8Y (op : Word) : Nibble := (op >>> 4).setWidth 4

/-- Field `n = op[3:0]`. -/
def ch8N (op : Word) : Nibble := op.setWidth 4

/-- The major opcode `op[15:12]`. -/
def ch8Major (op : Word) : Nat := op.toNat / 4096

/-- Major 8: by the minor opcode `n` (rule R346). -/
def decodeCh8Major8 (op : Word) : Except DecodeError Instr :=
  match (ch8N op).toNat with
  | 0x0 => .ok (.ch8_ld_Vx_Vy (ch8X op) (ch8Y op))
  | 0x1 => .ok (.ch8_or_Vx_Vy (ch8X op) (ch8Y op))
  | 0x2 => .ok (.ch8_and_Vx_Vy (ch8X op) (ch8Y op))
  | 0x3 => .ok (.ch8_xor_Vx_Vy (ch8X op) (ch8Y op))
  | 0x4 => .ok (.ch8_add_Vx_Vy (ch8X op) (ch8Y op))
  | 0x5 => .ok (.ch8_sub_Vx_Vy (ch8X op) (ch8Y op))
  | 0x6 => .ok (.ch8_shr_Vx_Vy (ch8X op) (ch8Y op))
  | 0x7 => .ok (.ch8_subn_Vx_Vy (ch8X op) (ch8Y op))
  | 0xE => .ok (.ch8_shl_Vx_Vy (ch8X op) (ch8Y op))
  | _ => .error (.unknownChip8 op)

/-- Major F: by the low byte `nn` (rule R346). -/
def decodeCh8MajorF (op : Word) : Except DecodeError Instr :=
  match (lowByte op).toNat with
  | 0x07 => .ok (.ch8_ld_Vx_DT (ch8X op))
  | 0x0A => .ok (.ch8_ld_Vx_K (ch8X op))
  | 0x15 => .ok (.ch8_ld_DT_Vx (ch8X op))
  | 0x18 => .ok (.ch8_ld_ST_Vx (ch8X op))
  | 0x1E => .ok (.ch8_add_I_Vx (ch8X op))
  | 0x29 => .ok (.ch8_ld_F_Vx (ch8X op))
  | 0x33 => .ok (.ch8_ld_B_Vx (ch8X op))
  | 0x55 => .ok (.ch8_ld_atI_Vx (ch8X op))
  | 0x65 => .ok (.ch8_ld_Vx_atI (ch8X op))
  | _ => .error (.unknownChip8 op)

/-- One CHIP-8 instruction word (rules R301, R346); a word of no row is named as unknown (rule R303). -/
def decodeCh8 (op : Word) : Except DecodeError Instr :=
  match ch8Major op with
  | 0x0 =>
    if op = 0x00E0 then .ok .ch8_cls
    else if op = 0x00EE then .ok .ch8_ret
    else .ok (.ch8_sys_nnn (ch8Nnn op))
  | 0x1 => .ok (.ch8_jp_nnn (ch8Nnn op))
  | 0x2 => .ok (.ch8_call_nnn (ch8Nnn op))
  | 0x3 => .ok (.ch8_se_Vx_nn (ch8X op) (lowByte op))
  | 0x4 => .ok (.ch8_sne_Vx_nn (ch8X op) (lowByte op))
  | 0x5 => if ch8N op = 0 then .ok (.ch8_se_Vx_Vy (ch8X op) (ch8Y op)) else .error (.unknownChip8 op)
  | 0x6 => .ok (.ch8_ld_Vx_nn (ch8X op) (lowByte op))
  | 0x7 => .ok (.ch8_add_Vx_nn (ch8X op) (lowByte op))
  | 0x8 => decodeCh8Major8 op
  | 0x9 => if ch8N op = 0 then .ok (.ch8_sne_Vx_Vy (ch8X op) (ch8Y op)) else .error (.unknownChip8 op)
  | 0xA => .ok (.ch8_ld_I_nnn (ch8Nnn op))
  | 0xB => .ok (.ch8_jp_V0_nnn (ch8Nnn op))
  | 0xC => .ok (.ch8_rnd_Vx_nn (ch8X op) (lowByte op))
  | 0xD => .ok (.ch8_drw_Vx_Vy_n (ch8X op) (ch8Y op) (ch8N op))
  | 0xE =>
    if lowByte op = 0x9E then .ok (.ch8_skp_Vx (ch8X op))
    else if lowByte op = 0xA1 then .ok (.ch8_sknp_Vx (ch8X op))
    else .error (.unknownChip8 op)
  | _ => decodeCh8MajorF op

/-- One CHIP-8 instruction from the bytes at its address, big-endian (rule R300). -/
def decodeCh8Bytes : List Byte → Except DecodeError (Instr × List Byte)
  | hi :: lo :: rest => (decodeCh8 (joinBytes hi lo)).map (fun i => (i, rest))
  | _ => .error .truncated

/-- The decoder of a machine: total on any bytes. -/
def decode : MachineId → List Byte → Except DecodeError (Instr × List Byte)
  | .gameBoy, bs => decodeGb bs
  | .chip8, bs => decodeCh8Bytes bs

/-! ## Encoding -/

/-- A word of format NNN (spec/49_chip8.md rule R301). -/
def ch8NNN (major : Nibble) (nnn : Addr12) : Word := major ++ nnn

/-- A word of format XNN or X. -/
def ch8XNN (major x : Nibble) (nn : Byte) : Word := (major ++ x) ++ nn

/-- A word of format XYN. -/
def ch8XYN (major x y n : Nibble) : Word := (major ++ x) ++ (y ++ n)

/-- The bytes of an instruction, lowest address first: the `match` value of its row of spec/opcode_table.json with the immediate
bytes of its format (rules R101, R109), or its big-endian CHIP-8 word. -/
def encode : Instr → List Byte
  | .nop => [0x00]
  | .ld_BC_nn nn => [0x01, lowByte nn, highByte nn]
  | .ld_atBC_A => [0x02]
  | .inc_BC => [0x03]
  | .inc_B => [0x04]
  | .dec_B => [0x05]
  | .ld_B_n n => [0x06, n]
  | .rlca => [0x07]
  | .ld_at_nn_SP nn => [0x08, lowByte nn, highByte nn]
  | .add_HL_BC => [0x09]
  | .ld_A_atBC => [0x0A]
  | .dec_BC => [0x0B]
  | .inc_C => [0x0C]
  | .dec_C => [0x0D]
  | .ld_C_n n => [0x0E, n]
  | .rrca => [0x0F]
  | .stop => [0x10]
  | .ld_DE_nn nn => [0x11, lowByte nn, highByte nn]
  | .ld_atDE_A => [0x12]
  | .inc_DE => [0x13]
  | .inc_D => [0x14]
  | .dec_D => [0x15]
  | .ld_D_n n => [0x16, n]
  | .rla => [0x17]
  | .jr_e e => [0x18, e]
  | .add_HL_DE => [0x19]
  | .ld_A_atDE => [0x1A]
  | .dec_DE => [0x1B]
  | .inc_E => [0x1C]
  | .dec_E => [0x1D]
  | .ld_E_n n => [0x1E, n]
  | .rra => [0x1F]
  | .jr_NZ_e e => [0x20, e]
  | .ld_HL_nn nn => [0x21, lowByte nn, highByte nn]
  | .ld_atHLinc_A => [0x22]
  | .inc_HL => [0x23]
  | .inc_H => [0x24]
  | .dec_H => [0x25]
  | .ld_H_n n => [0x26, n]
  | .daa => [0x27]
  | .jr_Z_e e => [0x28, e]
  | .add_HL_HL => [0x29]
  | .ld_A_atHLinc => [0x2A]
  | .dec_HL => [0x2B]
  | .inc_L => [0x2C]
  | .dec_L => [0x2D]
  | .ld_L_n n => [0x2E, n]
  | .cpl => [0x2F]
  | .jr_NC_e e => [0x30, e]
  | .ld_SP_nn nn => [0x31, lowByte nn, highByte nn]
  | .ld_atHLdec_A => [0x32]
  | .inc_SP => [0x33]
  | .inc_atHL => [0x34]
  | .dec_atHL => [0x35]
  | .ld_atHL_n n => [0x36, n]
  | .scf => [0x37]
  | .jr_C_e e => [0x38, e]
  | .add_HL_SP => [0x39]
  | .ld_A_atHLdec => [0x3A]
  | .dec_SP => [0x3B]
  | .inc_A => [0x3C]
  | .dec_A => [0x3D]
  | .ld_A_n n => [0x3E, n]
  | .ccf => [0x3F]
  | .ld_B_B => [0x40]
  | .ld_B_C => [0x41]
  | .ld_B_D => [0x42]
  | .ld_B_E => [0x43]
  | .ld_B_H => [0x44]
  | .ld_B_L => [0x45]
  | .ld_B_atHL => [0x46]
  | .ld_B_A => [0x47]
  | .ld_C_B => [0x48]
  | .ld_C_C => [0x49]
  | .ld_C_D => [0x4A]
  | .ld_C_E => [0x4B]
  | .ld_C_H => [0x4C]
  | .ld_C_L => [0x4D]
  | .ld_C_atHL => [0x4E]
  | .ld_C_A => [0x4F]
  | .ld_D_B => [0x50]
  | .ld_D_C => [0x51]
  | .ld_D_D => [0x52]
  | .ld_D_E => [0x53]
  | .ld_D_H => [0x54]
  | .ld_D_L => [0x55]
  | .ld_D_atHL => [0x56]
  | .ld_D_A => [0x57]
  | .ld_E_B => [0x58]
  | .ld_E_C => [0x59]
  | .ld_E_D => [0x5A]
  | .ld_E_E => [0x5B]
  | .ld_E_H => [0x5C]
  | .ld_E_L => [0x5D]
  | .ld_E_atHL => [0x5E]
  | .ld_E_A => [0x5F]
  | .ld_H_B => [0x60]
  | .ld_H_C => [0x61]
  | .ld_H_D => [0x62]
  | .ld_H_E => [0x63]
  | .ld_H_H => [0x64]
  | .ld_H_L => [0x65]
  | .ld_H_atHL => [0x66]
  | .ld_H_A => [0x67]
  | .ld_L_B => [0x68]
  | .ld_L_C => [0x69]
  | .ld_L_D => [0x6A]
  | .ld_L_E => [0x6B]
  | .ld_L_H => [0x6C]
  | .ld_L_L => [0x6D]
  | .ld_L_atHL => [0x6E]
  | .ld_L_A => [0x6F]
  | .ld_atHL_B => [0x70]
  | .ld_atHL_C => [0x71]
  | .ld_atHL_D => [0x72]
  | .ld_atHL_E => [0x73]
  | .ld_atHL_H => [0x74]
  | .ld_atHL_L => [0x75]
  | .halt => [0x76]
  | .ld_atHL_A => [0x77]
  | .ld_A_B => [0x78]
  | .ld_A_C => [0x79]
  | .ld_A_D => [0x7A]
  | .ld_A_E => [0x7B]
  | .ld_A_H => [0x7C]
  | .ld_A_L => [0x7D]
  | .ld_A_atHL => [0x7E]
  | .ld_A_A => [0x7F]
  | .add_A_B => [0x80]
  | .add_A_C => [0x81]
  | .add_A_D => [0x82]
  | .add_A_E => [0x83]
  | .add_A_H => [0x84]
  | .add_A_L => [0x85]
  | .add_A_atHL => [0x86]
  | .add_A_A => [0x87]
  | .adc_A_B => [0x88]
  | .adc_A_C => [0x89]
  | .adc_A_D => [0x8A]
  | .adc_A_E => [0x8B]
  | .adc_A_H => [0x8C]
  | .adc_A_L => [0x8D]
  | .adc_A_atHL => [0x8E]
  | .adc_A_A => [0x8F]
  | .sub_B => [0x90]
  | .sub_C => [0x91]
  | .sub_D => [0x92]
  | .sub_E => [0x93]
  | .sub_H => [0x94]
  | .sub_L => [0x95]
  | .sub_atHL => [0x96]
  | .sub_A => [0x97]
  | .sbc_A_B => [0x98]
  | .sbc_A_C => [0x99]
  | .sbc_A_D => [0x9A]
  | .sbc_A_E => [0x9B]
  | .sbc_A_H => [0x9C]
  | .sbc_A_L => [0x9D]
  | .sbc_A_atHL => [0x9E]
  | .sbc_A_A => [0x9F]
  | .and_B => [0xA0]
  | .and_C => [0xA1]
  | .and_D => [0xA2]
  | .and_E => [0xA3]
  | .and_H => [0xA4]
  | .and_L => [0xA5]
  | .and_atHL => [0xA6]
  | .and_A => [0xA7]
  | .xor_B => [0xA8]
  | .xor_C => [0xA9]
  | .xor_D => [0xAA]
  | .xor_E => [0xAB]
  | .xor_H => [0xAC]
  | .xor_L => [0xAD]
  | .xor_atHL => [0xAE]
  | .xor_A => [0xAF]
  | .or_B => [0xB0]
  | .or_C => [0xB1]
  | .or_D => [0xB2]
  | .or_E => [0xB3]
  | .or_H => [0xB4]
  | .or_L => [0xB5]
  | .or_atHL => [0xB6]
  | .or_A => [0xB7]
  | .cp_B => [0xB8]
  | .cp_C => [0xB9]
  | .cp_D => [0xBA]
  | .cp_E => [0xBB]
  | .cp_H => [0xBC]
  | .cp_L => [0xBD]
  | .cp_atHL => [0xBE]
  | .cp_A => [0xBF]
  | .ret_NZ => [0xC0]
  | .pop_BC => [0xC1]
  | .jp_NZ_nn nn => [0xC2, lowByte nn, highByte nn]
  | .jp_nn nn => [0xC3, lowByte nn, highByte nn]
  | .call_NZ_nn nn => [0xC4, lowByte nn, highByte nn]
  | .push_BC => [0xC5]
  | .add_A_n n => [0xC6, n]
  | .rst_00 => [0xC7]
  | .ret_Z => [0xC8]
  | .ret => [0xC9]
  | .jp_Z_nn nn => [0xCA, lowByte nn, highByte nn]
  | .prefixCb => [0xCB]
  | .call_Z_nn nn => [0xCC, lowByte nn, highByte nn]
  | .call_nn nn => [0xCD, lowByte nn, highByte nn]
  | .adc_A_n n => [0xCE, n]
  | .rst_08 => [0xCF]
  | .ret_NC => [0xD0]
  | .pop_DE => [0xD1]
  | .jp_NC_nn nn => [0xD2, lowByte nn, highByte nn]
  | .undefined_D3 => [0xD3]
  | .call_NC_nn nn => [0xD4, lowByte nn, highByte nn]
  | .push_DE => [0xD5]
  | .sub_n n => [0xD6, n]
  | .rst_10 => [0xD7]
  | .ret_C => [0xD8]
  | .reti => [0xD9]
  | .jp_C_nn nn => [0xDA, lowByte nn, highByte nn]
  | .undefined_DB => [0xDB]
  | .call_C_nn nn => [0xDC, lowByte nn, highByte nn]
  | .undefined_DD => [0xDD]
  | .sbc_A_n n => [0xDE, n]
  | .rst_18 => [0xDF]
  | .ldh_at_n_A n => [0xE0, n]
  | .pop_HL => [0xE1]
  | .ld_atC_A => [0xE2]
  | .undefined_E3 => [0xE3]
  | .undefined_E4 => [0xE4]
  | .push_HL => [0xE5]
  | .and_n n => [0xE6, n]
  | .rst_20 => [0xE7]
  | .add_SP_e e => [0xE8, e]
  | .jp_HL => [0xE9]
  | .ld_at_nn_A nn => [0xEA, lowByte nn, highByte nn]
  | .undefined_EB => [0xEB]
  | .undefined_EC => [0xEC]
  | .undefined_ED => [0xED]
  | .xor_n n => [0xEE, n]
  | .rst_28 => [0xEF]
  | .ldh_A_at_n n => [0xF0, n]
  | .pop_AF => [0xF1]
  | .ld_A_atC => [0xF2]
  | .di => [0xF3]
  | .undefined_F4 => [0xF4]
  | .push_AF => [0xF5]
  | .or_n n => [0xF6, n]
  | .rst_30 => [0xF7]
  | .ld_HL_SPe e => [0xF8, e]
  | .ld_SP_HL => [0xF9]
  | .ld_A_at_nn nn => [0xFA, lowByte nn, highByte nn]
  | .ei => [0xFB]
  | .undefined_FC => [0xFC]
  | .undefined_FD => [0xFD]
  | .cp_n n => [0xFE, n]
  | .rst_38 => [0xFF]
  | .rlc_B => [0xCB, 0x00]
  | .rlc_C => [0xCB, 0x01]
  | .rlc_D => [0xCB, 0x02]
  | .rlc_E => [0xCB, 0x03]
  | .rlc_H => [0xCB, 0x04]
  | .rlc_L => [0xCB, 0x05]
  | .rlc_atHL => [0xCB, 0x06]
  | .rlc_A => [0xCB, 0x07]
  | .rrc_B => [0xCB, 0x08]
  | .rrc_C => [0xCB, 0x09]
  | .rrc_D => [0xCB, 0x0A]
  | .rrc_E => [0xCB, 0x0B]
  | .rrc_H => [0xCB, 0x0C]
  | .rrc_L => [0xCB, 0x0D]
  | .rrc_atHL => [0xCB, 0x0E]
  | .rrc_A => [0xCB, 0x0F]
  | .rl_B => [0xCB, 0x10]
  | .rl_C => [0xCB, 0x11]
  | .rl_D => [0xCB, 0x12]
  | .rl_E => [0xCB, 0x13]
  | .rl_H => [0xCB, 0x14]
  | .rl_L => [0xCB, 0x15]
  | .rl_atHL => [0xCB, 0x16]
  | .rl_A => [0xCB, 0x17]
  | .rr_B => [0xCB, 0x18]
  | .rr_C => [0xCB, 0x19]
  | .rr_D => [0xCB, 0x1A]
  | .rr_E => [0xCB, 0x1B]
  | .rr_H => [0xCB, 0x1C]
  | .rr_L => [0xCB, 0x1D]
  | .rr_atHL => [0xCB, 0x1E]
  | .rr_A => [0xCB, 0x1F]
  | .sla_B => [0xCB, 0x20]
  | .sla_C => [0xCB, 0x21]
  | .sla_D => [0xCB, 0x22]
  | .sla_E => [0xCB, 0x23]
  | .sla_H => [0xCB, 0x24]
  | .sla_L => [0xCB, 0x25]
  | .sla_atHL => [0xCB, 0x26]
  | .sla_A => [0xCB, 0x27]
  | .sra_B => [0xCB, 0x28]
  | .sra_C => [0xCB, 0x29]
  | .sra_D => [0xCB, 0x2A]
  | .sra_E => [0xCB, 0x2B]
  | .sra_H => [0xCB, 0x2C]
  | .sra_L => [0xCB, 0x2D]
  | .sra_atHL => [0xCB, 0x2E]
  | .sra_A => [0xCB, 0x2F]
  | .swap_B => [0xCB, 0x30]
  | .swap_C => [0xCB, 0x31]
  | .swap_D => [0xCB, 0x32]
  | .swap_E => [0xCB, 0x33]
  | .swap_H => [0xCB, 0x34]
  | .swap_L => [0xCB, 0x35]
  | .swap_atHL => [0xCB, 0x36]
  | .swap_A => [0xCB, 0x37]
  | .srl_B => [0xCB, 0x38]
  | .srl_C => [0xCB, 0x39]
  | .srl_D => [0xCB, 0x3A]
  | .srl_E => [0xCB, 0x3B]
  | .srl_H => [0xCB, 0x3C]
  | .srl_L => [0xCB, 0x3D]
  | .srl_atHL => [0xCB, 0x3E]
  | .srl_A => [0xCB, 0x3F]
  | .bit_0_B => [0xCB, 0x40]
  | .bit_0_C => [0xCB, 0x41]
  | .bit_0_D => [0xCB, 0x42]
  | .bit_0_E => [0xCB, 0x43]
  | .bit_0_H => [0xCB, 0x44]
  | .bit_0_L => [0xCB, 0x45]
  | .bit_0_atHL => [0xCB, 0x46]
  | .bit_0_A => [0xCB, 0x47]
  | .bit_1_B => [0xCB, 0x48]
  | .bit_1_C => [0xCB, 0x49]
  | .bit_1_D => [0xCB, 0x4A]
  | .bit_1_E => [0xCB, 0x4B]
  | .bit_1_H => [0xCB, 0x4C]
  | .bit_1_L => [0xCB, 0x4D]
  | .bit_1_atHL => [0xCB, 0x4E]
  | .bit_1_A => [0xCB, 0x4F]
  | .bit_2_B => [0xCB, 0x50]
  | .bit_2_C => [0xCB, 0x51]
  | .bit_2_D => [0xCB, 0x52]
  | .bit_2_E => [0xCB, 0x53]
  | .bit_2_H => [0xCB, 0x54]
  | .bit_2_L => [0xCB, 0x55]
  | .bit_2_atHL => [0xCB, 0x56]
  | .bit_2_A => [0xCB, 0x57]
  | .bit_3_B => [0xCB, 0x58]
  | .bit_3_C => [0xCB, 0x59]
  | .bit_3_D => [0xCB, 0x5A]
  | .bit_3_E => [0xCB, 0x5B]
  | .bit_3_H => [0xCB, 0x5C]
  | .bit_3_L => [0xCB, 0x5D]
  | .bit_3_atHL => [0xCB, 0x5E]
  | .bit_3_A => [0xCB, 0x5F]
  | .bit_4_B => [0xCB, 0x60]
  | .bit_4_C => [0xCB, 0x61]
  | .bit_4_D => [0xCB, 0x62]
  | .bit_4_E => [0xCB, 0x63]
  | .bit_4_H => [0xCB, 0x64]
  | .bit_4_L => [0xCB, 0x65]
  | .bit_4_atHL => [0xCB, 0x66]
  | .bit_4_A => [0xCB, 0x67]
  | .bit_5_B => [0xCB, 0x68]
  | .bit_5_C => [0xCB, 0x69]
  | .bit_5_D => [0xCB, 0x6A]
  | .bit_5_E => [0xCB, 0x6B]
  | .bit_5_H => [0xCB, 0x6C]
  | .bit_5_L => [0xCB, 0x6D]
  | .bit_5_atHL => [0xCB, 0x6E]
  | .bit_5_A => [0xCB, 0x6F]
  | .bit_6_B => [0xCB, 0x70]
  | .bit_6_C => [0xCB, 0x71]
  | .bit_6_D => [0xCB, 0x72]
  | .bit_6_E => [0xCB, 0x73]
  | .bit_6_H => [0xCB, 0x74]
  | .bit_6_L => [0xCB, 0x75]
  | .bit_6_atHL => [0xCB, 0x76]
  | .bit_6_A => [0xCB, 0x77]
  | .bit_7_B => [0xCB, 0x78]
  | .bit_7_C => [0xCB, 0x79]
  | .bit_7_D => [0xCB, 0x7A]
  | .bit_7_E => [0xCB, 0x7B]
  | .bit_7_H => [0xCB, 0x7C]
  | .bit_7_L => [0xCB, 0x7D]
  | .bit_7_atHL => [0xCB, 0x7E]
  | .bit_7_A => [0xCB, 0x7F]
  | .res_0_B => [0xCB, 0x80]
  | .res_0_C => [0xCB, 0x81]
  | .res_0_D => [0xCB, 0x82]
  | .res_0_E => [0xCB, 0x83]
  | .res_0_H => [0xCB, 0x84]
  | .res_0_L => [0xCB, 0x85]
  | .res_0_atHL => [0xCB, 0x86]
  | .res_0_A => [0xCB, 0x87]
  | .res_1_B => [0xCB, 0x88]
  | .res_1_C => [0xCB, 0x89]
  | .res_1_D => [0xCB, 0x8A]
  | .res_1_E => [0xCB, 0x8B]
  | .res_1_H => [0xCB, 0x8C]
  | .res_1_L => [0xCB, 0x8D]
  | .res_1_atHL => [0xCB, 0x8E]
  | .res_1_A => [0xCB, 0x8F]
  | .res_2_B => [0xCB, 0x90]
  | .res_2_C => [0xCB, 0x91]
  | .res_2_D => [0xCB, 0x92]
  | .res_2_E => [0xCB, 0x93]
  | .res_2_H => [0xCB, 0x94]
  | .res_2_L => [0xCB, 0x95]
  | .res_2_atHL => [0xCB, 0x96]
  | .res_2_A => [0xCB, 0x97]
  | .res_3_B => [0xCB, 0x98]
  | .res_3_C => [0xCB, 0x99]
  | .res_3_D => [0xCB, 0x9A]
  | .res_3_E => [0xCB, 0x9B]
  | .res_3_H => [0xCB, 0x9C]
  | .res_3_L => [0xCB, 0x9D]
  | .res_3_atHL => [0xCB, 0x9E]
  | .res_3_A => [0xCB, 0x9F]
  | .res_4_B => [0xCB, 0xA0]
  | .res_4_C => [0xCB, 0xA1]
  | .res_4_D => [0xCB, 0xA2]
  | .res_4_E => [0xCB, 0xA3]
  | .res_4_H => [0xCB, 0xA4]
  | .res_4_L => [0xCB, 0xA5]
  | .res_4_atHL => [0xCB, 0xA6]
  | .res_4_A => [0xCB, 0xA7]
  | .res_5_B => [0xCB, 0xA8]
  | .res_5_C => [0xCB, 0xA9]
  | .res_5_D => [0xCB, 0xAA]
  | .res_5_E => [0xCB, 0xAB]
  | .res_5_H => [0xCB, 0xAC]
  | .res_5_L => [0xCB, 0xAD]
  | .res_5_atHL => [0xCB, 0xAE]
  | .res_5_A => [0xCB, 0xAF]
  | .res_6_B => [0xCB, 0xB0]
  | .res_6_C => [0xCB, 0xB1]
  | .res_6_D => [0xCB, 0xB2]
  | .res_6_E => [0xCB, 0xB3]
  | .res_6_H => [0xCB, 0xB4]
  | .res_6_L => [0xCB, 0xB5]
  | .res_6_atHL => [0xCB, 0xB6]
  | .res_6_A => [0xCB, 0xB7]
  | .res_7_B => [0xCB, 0xB8]
  | .res_7_C => [0xCB, 0xB9]
  | .res_7_D => [0xCB, 0xBA]
  | .res_7_E => [0xCB, 0xBB]
  | .res_7_H => [0xCB, 0xBC]
  | .res_7_L => [0xCB, 0xBD]
  | .res_7_atHL => [0xCB, 0xBE]
  | .res_7_A => [0xCB, 0xBF]
  | .set_0_B => [0xCB, 0xC0]
  | .set_0_C => [0xCB, 0xC1]
  | .set_0_D => [0xCB, 0xC2]
  | .set_0_E => [0xCB, 0xC3]
  | .set_0_H => [0xCB, 0xC4]
  | .set_0_L => [0xCB, 0xC5]
  | .set_0_atHL => [0xCB, 0xC6]
  | .set_0_A => [0xCB, 0xC7]
  | .set_1_B => [0xCB, 0xC8]
  | .set_1_C => [0xCB, 0xC9]
  | .set_1_D => [0xCB, 0xCA]
  | .set_1_E => [0xCB, 0xCB]
  | .set_1_H => [0xCB, 0xCC]
  | .set_1_L => [0xCB, 0xCD]
  | .set_1_atHL => [0xCB, 0xCE]
  | .set_1_A => [0xCB, 0xCF]
  | .set_2_B => [0xCB, 0xD0]
  | .set_2_C => [0xCB, 0xD1]
  | .set_2_D => [0xCB, 0xD2]
  | .set_2_E => [0xCB, 0xD3]
  | .set_2_H => [0xCB, 0xD4]
  | .set_2_L => [0xCB, 0xD5]
  | .set_2_atHL => [0xCB, 0xD6]
  | .set_2_A => [0xCB, 0xD7]
  | .set_3_B => [0xCB, 0xD8]
  | .set_3_C => [0xCB, 0xD9]
  | .set_3_D => [0xCB, 0xDA]
  | .set_3_E => [0xCB, 0xDB]
  | .set_3_H => [0xCB, 0xDC]
  | .set_3_L => [0xCB, 0xDD]
  | .set_3_atHL => [0xCB, 0xDE]
  | .set_3_A => [0xCB, 0xDF]
  | .set_4_B => [0xCB, 0xE0]
  | .set_4_C => [0xCB, 0xE1]
  | .set_4_D => [0xCB, 0xE2]
  | .set_4_E => [0xCB, 0xE3]
  | .set_4_H => [0xCB, 0xE4]
  | .set_4_L => [0xCB, 0xE5]
  | .set_4_atHL => [0xCB, 0xE6]
  | .set_4_A => [0xCB, 0xE7]
  | .set_5_B => [0xCB, 0xE8]
  | .set_5_C => [0xCB, 0xE9]
  | .set_5_D => [0xCB, 0xEA]
  | .set_5_E => [0xCB, 0xEB]
  | .set_5_H => [0xCB, 0xEC]
  | .set_5_L => [0xCB, 0xED]
  | .set_5_atHL => [0xCB, 0xEE]
  | .set_5_A => [0xCB, 0xEF]
  | .set_6_B => [0xCB, 0xF0]
  | .set_6_C => [0xCB, 0xF1]
  | .set_6_D => [0xCB, 0xF2]
  | .set_6_E => [0xCB, 0xF3]
  | .set_6_H => [0xCB, 0xF4]
  | .set_6_L => [0xCB, 0xF5]
  | .set_6_atHL => [0xCB, 0xF6]
  | .set_6_A => [0xCB, 0xF7]
  | .set_7_B => [0xCB, 0xF8]
  | .set_7_C => [0xCB, 0xF9]
  | .set_7_D => [0xCB, 0xFA]
  | .set_7_E => [0xCB, 0xFB]
  | .set_7_H => [0xCB, 0xFC]
  | .set_7_L => [0xCB, 0xFD]
  | .set_7_atHL => [0xCB, 0xFE]
  | .set_7_A => [0xCB, 0xFF]
  | .ch8_cls => wordBytes 0x00E0
  | .ch8_ret => wordBytes 0x00EE
  | .ch8_sys_nnn nnn => wordBytes (ch8NNN 0x0 nnn)
  | .ch8_jp_nnn nnn => wordBytes (ch8NNN 0x1 nnn)
  | .ch8_call_nnn nnn => wordBytes (ch8NNN 0x2 nnn)
  | .ch8_se_Vx_nn x nn => wordBytes (ch8XNN 0x3 x nn)
  | .ch8_sne_Vx_nn x nn => wordBytes (ch8XNN 0x4 x nn)
  | .ch8_se_Vx_Vy x y => wordBytes (ch8XYN 0x5 x y 0x0)
  | .ch8_ld_Vx_nn x nn => wordBytes (ch8XNN 0x6 x nn)
  | .ch8_add_Vx_nn x nn => wordBytes (ch8XNN 0x7 x nn)
  | .ch8_ld_Vx_Vy x y => wordBytes (ch8XYN 0x8 x y 0x0)
  | .ch8_or_Vx_Vy x y => wordBytes (ch8XYN 0x8 x y 0x1)
  | .ch8_and_Vx_Vy x y => wordBytes (ch8XYN 0x8 x y 0x2)
  | .ch8_xor_Vx_Vy x y => wordBytes (ch8XYN 0x8 x y 0x3)
  | .ch8_add_Vx_Vy x y => wordBytes (ch8XYN 0x8 x y 0x4)
  | .ch8_sub_Vx_Vy x y => wordBytes (ch8XYN 0x8 x y 0x5)
  | .ch8_shr_Vx_Vy x y => wordBytes (ch8XYN 0x8 x y 0x6)
  | .ch8_subn_Vx_Vy x y => wordBytes (ch8XYN 0x8 x y 0x7)
  | .ch8_shl_Vx_Vy x y => wordBytes (ch8XYN 0x8 x y 0xe)
  | .ch8_sne_Vx_Vy x y => wordBytes (ch8XYN 0x9 x y 0x0)
  | .ch8_ld_I_nnn nnn => wordBytes (ch8NNN 0xA nnn)
  | .ch8_jp_V0_nnn nnn => wordBytes (ch8NNN 0xB nnn)
  | .ch8_rnd_Vx_nn x nn => wordBytes (ch8XNN 0xC x nn)
  | .ch8_drw_Vx_Vy_n x y n => wordBytes (ch8XYN 0xD x y n)
  | .ch8_skp_Vx x => wordBytes (ch8XNN 0xE x 0x9E)
  | .ch8_sknp_Vx x => wordBytes (ch8XNN 0xE x 0xA1)
  | .ch8_ld_Vx_DT x => wordBytes (ch8XNN 0xF x 0x07)
  | .ch8_ld_Vx_K x => wordBytes (ch8XNN 0xF x 0x0A)
  | .ch8_ld_DT_Vx x => wordBytes (ch8XNN 0xF x 0x15)
  | .ch8_ld_ST_Vx x => wordBytes (ch8XNN 0xF x 0x18)
  | .ch8_add_I_Vx x => wordBytes (ch8XNN 0xF x 0x1E)
  | .ch8_ld_F_Vx x => wordBytes (ch8XNN 0xF x 0x29)
  | .ch8_ld_B_Vx x => wordBytes (ch8XNN 0xF x 0x33)
  | .ch8_ld_atI_Vx x => wordBytes (ch8XNN 0xF x 0x55)
  | .ch8_ld_Vx_atI x => wordBytes (ch8XNN 0xF x 0x65)

/-- Whose instruction it is. -/
def Instr.machine : Instr → MachineId
  | .ch8_cls | .ch8_ret | .ch8_sys_nnn _ | .ch8_jp_nnn _ | .ch8_call_nnn _ | .ch8_se_Vx_nn _ _ | .ch8_sne_Vx_nn _ _
  | .ch8_se_Vx_Vy _ _ | .ch8_ld_Vx_nn _ _ | .ch8_add_Vx_nn _ _ | .ch8_ld_Vx_Vy _ _ | .ch8_or_Vx_Vy _ _
  | .ch8_and_Vx_Vy _ _ | .ch8_xor_Vx_Vy _ _ | .ch8_add_Vx_Vy _ _ | .ch8_sub_Vx_Vy _ _ | .ch8_shr_Vx_Vy _ _
  | .ch8_subn_Vx_Vy _ _ | .ch8_shl_Vx_Vy _ _ | .ch8_sne_Vx_Vy _ _ | .ch8_ld_I_nnn _ | .ch8_jp_V0_nnn _
  | .ch8_rnd_Vx_nn _ _ | .ch8_drw_Vx_Vy_n _ _ _ | .ch8_skp_Vx _ | .ch8_sknp_Vx _ | .ch8_ld_Vx_DT _ | .ch8_ld_Vx_K _
  | .ch8_ld_DT_Vx _ | .ch8_ld_ST_Vx _ | .ch8_add_I_Vx _ | .ch8_ld_F_Vx _ | .ch8_ld_B_Vx _ | .ch8_ld_atI_Vx _
  | .ch8_ld_Vx_atI _ => .chip8
  | _ => .gameBoy

/-! ## The opcode table's own numbering -/

/-- A first byte whose instruction is two bytes long (rule R101, formats OP_N and OP_E). -/
def isTwoByteOpcode (op : Byte) : Bool :=
  match primaryEntry op with
  | .opN _ => true
  | .opE _ => true
  | _ => false

/-- Which machine a word of spec/opcode_table.json is for, and its bytes from the lowest address. A row of 16 bits is numbered
high byte first (rule R116): a CB-page row `0xCB00 | op2`, or a CHIP-8 word. A primary row's word is its bytes, the first one
lowest; a 16-bit one is a two-byte opcode with a zero operand, other than the words 0x00E0 and 0x00EE, which are `CLS` and `RET`
(log entry 16). The operand bytes a row gives no bits are zeros. -/
def tableWordBytes (nbits w : Nat) : MachineId × List Byte :=
  let word := BitVec.ofNat 16 w
  if nbits = 16 then
    if highByte word = 0xCB then (.gameBoy, wordBytes word)
    else if highByte word = 0 && isTwoByteOpcode (lowByte word) && lowByte word != 0xE0 && lowByte word != 0xEE then
      (.gameBoy, [lowByte word, 0])
    else (.chip8, wordBytes word)
  else if nbits ≤ 8 then
    match primaryEntry (lowByte word) with
    | .op _ => (.gameBoy, [lowByte word])
    | .cb => (.gameBoy, [lowByte word])
    | .opNN _ => (.gameBoy, [lowByte word, 0, 0])
    | _ => (.gameBoy, [lowByte word, 0])
  else (.gameBoy, [lowByte word, highByte word, BitVec.ofNat 8 (w / 65536)])

/-- The instruction the decoder reads from a word of spec/opcode_table.json. -/
def decodeTableWord (nbits w : Nat) : Option Instr :=
  let (m, bytes) := tableWordBytes nbits w
  match decode m bytes with
  | .ok (i, _) => some i
  | .error _ => none

end Sys2Proof
end

