-- ==== Sys2Proof/Machine/Ops.lean ====
section
/-! DEFINITION. The named operations over memory and registers: the canonical store, the Game Boy memory map with its bank
controller, OAM DMA and joypad port (spec/20_memory.md), the stack, the fetch, taking an interrupt and returning from one
(spec/60_exceptions.md rule R405), and the CHIP-8 machine's accesses (spec/49_chip8.md). -/

namespace Sys2Proof.Machine

/-! ## The canonical store -/

/-- What the store holds at an address: `init` gives what an unlisted address reads as. -/
def Memory.read {α : Type} (init : Nat → α) : Memory α → Nat → α
  | [], k => init k
  | (k', v) :: rest, k => if k = k' then v else if k < k' then init k else Memory.read init rest k

/-- Write one value, keeping the canonical form: the value an unlisted address reads as removes the entry. -/
def Memory.write {α : Type} [DecidableEq α] (init : Nat → α) : Memory α → Nat → α → Memory α
  | [], k, v => if v = init k then [] else [(k, v)]
  | (k', v') :: rest, k, v =>
    if k < k' then (if v = init k then (k', v') :: rest else (k, v) :: (k', v') :: rest)
    else if k = k' then (if v = init k then rest else (k, v) :: rest)
    else (k', v') :: Memory.write init rest k v

/-- Canonical from address `lo` on: addresses strictly rising, no entry equal to what an unlisted address reads as. -/
def Memory.wfFrom {α : Type} [DecidableEq α] (init : Nat → α) : Nat → Memory α → Bool
  | _, [] => true
  | lo, (k, v) :: rest => decide (lo ≤ k) && decide (v ≠ init k) && Memory.wfFrom init (k + 1) rest

/-- The canonical form. -/
def Memory.wf {α : Type} [DecidableEq α] (init : Nat → α) (m : Memory α) : Bool :=
  Memory.wfFrom init 0 m

/-- Every listed address is below a bound. -/
def Memory.below {α : Type} (bound : Nat) (m : Memory α) : Bool :=
  m.all (fun cell => decide (cell.1 < bound))

/-- A byte string from address `k` on, as a canonical store. -/
def Memory.ofBytes (init : Nat → Byte) : Nat → List Byte → Memory Byte
  | _, [] => []
  | k, v :: rest =>
    if v = init k then Memory.ofBytes init (k + 1) rest else (k, v) :: Memory.ofBytes init (k + 1) rest

/-- What a bus address that is not listed reads as: its reset contents (rule R39). -/
def busInit (k : Nat) : Byte :=
  if k = 0xFF40 then 0x91 else if k = 0xFF47 then 0xFC else 0x00

/-- What an unlisted byte of the ROM image is: the representation of a zero byte (log entry 11). -/
def romInit (_ : Nat) : Byte := 0x00

/-- What an unlisted framebuffer cell is (rule R39). -/
def pixelInit (_ : Nat) : BitVec 2 := 0

/-- The 80 font bytes, five for each digit (spec/49_chip8.md rule R339). -/
def fontBytes : List Byte :=
  [0xF0, 0x90, 0x90, 0x90, 0xF0] ++ [0x20, 0x60, 0x20, 0x20, 0x70] ++ [0xF0, 0x10, 0xF0, 0x80, 0xF0]
  ++ [0xF0, 0x10, 0xF0, 0x10, 0xF0] ++ [0x90, 0x90, 0xF0, 0x10, 0x10] ++ [0xF0, 0x80, 0xF0, 0x10, 0xF0]
  ++ [0xF0, 0x80, 0xF0, 0x90, 0xF0] ++ [0xF0, 0x10, 0x20, 0x40, 0x40] ++ [0xF0, 0x90, 0xF0, 0x90, 0xF0]
  ++ [0xF0, 0x90, 0xF0, 0x10, 0xF0] ++ [0xF0, 0x90, 0xF0, 0x90, 0x90] ++ [0xE0, 0x90, 0xE0, 0x90, 0xE0]
  ++ [0xF0, 0x80, 0x80, 0x80, 0xF0] ++ [0xE0, 0x90, 0x90, 0x90, 0xE0] ++ [0xF0, 0x80, 0xF0, 0x80, 0xF0]
  ++ [0xF0, 0x80, 0xF0, 0x80, 0x80]

/-- What an unlisted CHIP-8 address reads as: the font at 0x050 to 0x09F, 0x00 elsewhere (rule R50). -/
def ch8Init (k : Nat) : Byte :=
  if 0x050 ≤ k ∧ k < 0x0A0 then fontBytes.getD (k - 0x050) 0 else 0x00

/-! ## Registers of the LR35902 -/

/-- `F` as a byte: Z, N, H, C in bits 7 to 4, the low nibble 0 (rule R24). -/
def Flags.toByte (f : Flags) : Byte :=
  (if f.z then 0x80 else 0) ||| (if f.n then 0x40 else 0) ||| (if f.h then 0x20 else 0) ||| (if f.c then 0x10 else 0)

/-- A write of a byte to `F` stores `value & 0xF0` (rule R24). -/
def Flags.ofByte (v : Byte) : Flags :=
  { z := v.getLsbD 7, n := v.getLsbD 6, h := v.getLsbD 5, c := v.getLsbD 4 }

/-- An 8-bit register by name (rule R20). -/
def GameBoy.r8 (g : GameBoy) : R8 → Byte
  | .b => g.b
  | .c => g.c
  | .d => g.d
  | .e => g.e
  | .h => g.h
  | .l => g.l
  | .a => g.a

/-- Write an 8-bit register. -/
def GameBoy.setR8 (g : GameBoy) (r : R8) (v : Byte) : GameBoy :=
  match r with
  | .b => { g with b := v }
  | .c => { g with c := v }
  | .d => { g with d := v }
  | .e => { g with e := v }
  | .h => { g with h := v }
  | .l => { g with l := v }
  | .a => { g with a := v }

/-- `BC = {B, C}` (rule R21). -/
def GameBoy.bc (g : GameBoy) : Word := joinBytes g.b g.c

/-- `DE = {D, E}`. -/
def GameBoy.de (g : GameBoy) : Word := joinBytes g.d g.e

/-- `HL = {H, L}`. -/
def GameBoy.hl (g : GameBoy) : Word := joinBytes g.h g.l

/-- `AF = {A, F}`. -/
def GameBoy.af (g : GameBoy) : Word := joinBytes g.a g.f.toByte

/-- Write `HL`: both halves (rule R21). -/
def GameBoy.setHl (g : GameBoy) (v : Word) : GameBoy := { g with h := highByte v, l := lowByte v }

/-- A pair or `SP` by name (rule R105). -/
def GameBoy.r16 (g : GameBoy) : R16 → Word
  | .bc => g.bc
  | .de => g.de
  | .hl => g.hl
  | .sp => g.sp

/-- Write a pair or `SP`. -/
def GameBoy.setR16 (g : GameBoy) (r : R16) (v : Word) : GameBoy :=
  match r with
  | .bc => { g with b := highByte v, c := lowByte v }
  | .de => { g with d := highByte v, e := lowByte v }
  | .hl => g.setHl v
  | .sp => { g with sp := v }

/-- A pair of `PUSH` and `POP` (rule R106). -/
def GameBoy.r16stk (g : GameBoy) : R16Stk → Word
  | .bc => g.bc
  | .de => g.de
  | .hl => g.hl
  | .af => g.af

/-- Write a pair of `PUSH` and `POP`; `AF` drops the low nibble of `F` (rules R21, R24, R165). -/
def GameBoy.setR16stk (g : GameBoy) (r : R16Stk) (v : Word) : GameBoy :=
  match r with
  | .bc => { g with b := highByte v, c := lowByte v }
  | .de => { g with d := highByte v, e := lowByte v }
  | .hl => g.setHl v
  | .af => { g with a := highByte v, f := Flags.ofByte (lowByte v) }

/-- `cycles <- n`: what the step returns (rule R9). -/
def GameBoy.spend (n : Nat) (g : GameBoy) : GameBoy := { g with cycles := n }

/-- `sext_16(v)` (rule R9). -/
def sext16 (v : Byte) : Word := v.signExtend 16

/-! ## The memory map -/

/-- The ranges of rules R61 and R62. -/
inductive Region where
  | ramGate
  | bankSelect
  | romWindow
  | vram
  | eram
  | wram
  | echo
  | oam
  | unusable
  | joypad
  | dma
  | io
  | hram
  | ie
deriving DecidableEq, Repr

/-- The range an address falls in (rules R61, R62). -/
def regionOf (addr : Word) : Region :=
  let k := addr.toNat
  if k < 0x2000 then .ramGate
  else if k < 0x4000 then .bankSelect
  else if k < 0x8000 then .romWindow
  else if k < 0xA000 then .vram
  else if k < 0xC000 then .eram
  else if k < 0xE000 then .wram
  else if k < 0xFE00 then .echo
  else if k < 0xFEA0 then .oam
  else if k < 0xFF00 then .unusable
  else if k = 0xFF00 then .joypad
  else if k = 0xFF46 then .dma
  else if k < 0xFF80 then .io
  else if k < 0xFFFF then .hram
  else .ie

/-- Where the byte behind a bus address is kept in `mem`: the echo range is `wram` (rule R71). -/
def storageAddr (addr : Word) : Nat :=
  match regionOf addr with
  | .echo => addr.toNat - 0x2000
  | _ => addr.toNat

/-- A byte of `mem`. -/
def GameBoy.cell (g : GameBoy) (k : Nat) : Byte := Memory.read busInit g.mem k

/-- Store a byte of `mem`. -/
def GameBoy.setCell (g : GameBoy) (k : Nat) (v : Byte) : GameBoy := { g with mem := Memory.write busInit g.mem k v }

/-- The ROM image byte at an offset; past the end of the image, a draw (rule R64). -/
def GameBoy.romByte (g : GameBoy) (slot : ReadSlot) (offset : Nat) : Byte :=
  if offset < g.romLen then Memory.read romInit g.rom offset else Config.openRomByte g.epoch slot

/-- `NBANKS`, the number of 16 KiB banks of the image (rule R6). -/
def GameBoy.nbanks (g : GameBoy) : Nat := (g.romLen + 16383) / 16384

/-- The joypad port as read (rule R76). -/
def GameBoy.joypad (g : GameBoy) : Byte :=
  let sel := g.cell 0xFF00 &&& 0x30
  let directions : Byte := if sel.getLsbD 4 then 0x0F else g.buttons &&& 0x0F
  let actions : Byte := if sel.getLsbD 5 then 0x0F else g.buttons >>> 4
  sel ||| (0x0F &&& directions &&& actions)

/-- `MemRead(addr, 1)` (rule R61). The slot names the access for a draw and has no other use. -/
def GameBoy.memRead (g : GameBoy) (slot : ReadSlot) (addr : Word) : Byte :=
  match regionOf addr with
  | .ramGate => g.romByte slot addr.toNat
  | .bankSelect => g.romByte slot addr.toNat
  | .romWindow => g.romByte slot (g.romBank.toNat * 0x4000 + (addr.toNat - 0x4000))
  | .eram => if g.ramEnabled then g.cell addr.toNat else 0xFF
  | .unusable => 0xFF
  | .joypad => g.joypad
  | .vram => g.cell (storageAddr addr)
  | .wram => g.cell (storageAddr addr)
  | .echo => g.cell (storageAddr addr)
  | .oam => g.cell (storageAddr addr)
  | .dma => g.cell (storageAddr addr)
  | .io => g.cell (storageAddr addr)
  | .hram => g.cell (storageAddr addr)
  | .ie => g.cell (storageAddr addr)

/-- One byte of the OAM copy. -/
def GameBoy.dmaByte (src : Nat) (g : GameBoy) (k : Nat) : GameBoy :=
  g.setCell (0xFE00 + k) (g.memRead (.dma k) (BitVec.ofNat 16 (src + k)))

/-- The OAM DMA copy: 160 bytes from page `v`, in ascending order, read through the memory map (rule R75). -/
def GameBoy.oamDma (v : Byte) (g : GameBoy) : GameBoy :=
  (List.range 160).foldl (GameBoy.dmaByte (v.toNat * 0x100)) g

/-- A bank-select write (rule R67). -/
def bankOf (v : Byte) : BitVec 5 :=
  if v.setWidth 5 = 0 then 1 else v.setWidth 5

/-- `MemWrite(addr, 1, v)` (rule R62). -/
def GameBoy.memWrite (g : GameBoy) (addr : Word) (v : Byte) : GameBoy :=
  match regionOf addr with
  | .ramGate => { g with ramEnabled := v &&& 0x0F == 0x0A }
  | .bankSelect => { g with romBank := bankOf v }
  | .romWindow => g
  | .eram => if g.ramEnabled then g.setCell addr.toNat v else g
  | .unusable => g
  | .joypad => g.setCell 0xFF00 (v &&& 0x30)
  | .dma => (g.setCell 0xFF46 v).oamDma v
  | .vram => g.setCell (storageAddr addr) v
  | .wram => g.setCell (storageAddr addr) v
  | .echo => g.setCell (storageAddr addr) v
  | .oam => g.setCell (storageAddr addr) v
  | .io => g.setCell (storageAddr addr) v
  | .hram => g.setCell (storageAddr addr) v
  | .ie => g.setCell (storageAddr addr) v

/-- `MemRead(addr, 1)` of an instruction that reads one data byte. -/
def GameBoy.load (g : GameBoy) (addr : Word) : Byte := g.memRead (.data 0) addr

/-- `MemWrite(addr, 2, v)`: the low byte at `addr`, then the high byte at the next address (rule R9). -/
def GameBoy.memWrite16 (g : GameBoy) (addr v : Word) : GameBoy :=
  (g.memWrite addr (lowByte v)).memWrite (addr + 1) (highByte v)

/-- `Push16(v)`: the high byte first (rules R9, R166). -/
def GameBoy.push16 (g : GameBoy) (v : Word) : GameBoy :=
  let g1 := { g with sp := g.sp - 1 }.memWrite (g.sp - 1) (highByte v)
  { g1 with sp := g.sp - 2 }.memWrite (g.sp - 2) (lowByte v)

/-- What `Pop16()` returns: the low byte is at `SP` (rule R9). -/
def GameBoy.popValue (g : GameBoy) : Word :=
  joinBytes (g.memRead (.data 1) (g.sp + 1)) (g.memRead (.data 0) g.sp)

/-- What `Pop16()` leaves: `SP` two higher. -/
def GameBoy.popped (g : GameBoy) : GameBoy := { g with sp := g.sp + 2 }

/-! ## Memory-mapped registers, by name (rules R32 to R35) -/

/-- `IF`, the interrupt request byte. -/
def GameBoy.ifReg (g : GameBoy) : Byte := g.cell 0xFF0F

/-- `IE`, the interrupt enable byte. -/
def GameBoy.ieReg (g : GameBoy) : Byte := g.cell 0xFFFF

/-- `LCDC`. -/
def GameBoy.lcdc (g : GameBoy) : Byte := g.cell 0xFF40

/-- `SCY`. -/
def GameBoy.scy (g : GameBoy) : Byte := g.cell 0xFF42

/-- `SCX`. -/
def GameBoy.scx (g : GameBoy) : Byte := g.cell 0xFF43

/-- `LY`. -/
def GameBoy.ly (g : GameBoy) : Byte := g.cell 0xFF44

/-- `BGP`. -/
def GameBoy.bgp (g : GameBoy) : Byte := g.cell 0xFF47

/-! ## Fetch -/

/-- The three bytes at `PC`, `PC + 1`, `PC + 2` (rule R25). An instruction is at most three bytes (rule R100). -/
def GameBoy.fetchBytes (g : GameBoy) : List Byte :=
  [g.memRead (.fetch 0) g.pc, g.memRead (.fetch 1) (g.pc + 1), g.memRead (.fetch 2) (g.pc + 2)]

/-- The instruction the bytes at `PC` are, and its length (rule R103). Three bytes always hold one. -/
def instrOfBytes (b0 b1 b2 : Byte) : Instr × Nat :=
  match primaryEntry b0 with
  | .op i => (i, 1)
  | .opN f => (f b1, 2)
  | .opE f => (f b1, 2)
  | .opNN f => (f (joinBytes b2 b1), 3)
  | .cb => (cbInstr b1, 2)

/-- Fetch and decode at `PC`. -/
def GameBoy.fetchInstr (g : GameBoy) : Instr × Nat :=
  instrOfBytes (g.memRead (.fetch 0) g.pc) (g.memRead (.fetch 1) (g.pc + 1)) (g.memRead (.fetch 2) (g.pc + 2))

/-- `PC` moved past `n` bytes, modulo 65536 (rule R25). -/
def GameBoy.skipBytes (n : Nat) (g : GameBoy) : GameBoy := { g with pc := g.pc + BitVec.ofNat 16 n }

/-! ## Taking an interrupt, and returning from one -/

/-- Some bit of `IF & IE` is set: the test that wakes a halted CPU, on all eight bits (rule R403). -/
def GameBoy.wakePending (g : GameBoy) : Bool := g.ifReg &&& g.ieReg != 0

/-- The VBlank request is pending and enabled, and `ime` lets it in (rule R405). -/
def GameBoy.vblankPending (g : GameBoy) : Bool := g.ime && (g.ifReg &&& g.ieReg).getLsbD 0

/-- Interrupt entry (rule R405): `ime` cleared, `IF` bit 0 cleared, `PC` pushed, on to 0x0040, 20 cycles. -/
def GameBoy.interruptEntry (g : GameBoy) : GameBoy :=
  let g1 := { g with ime := false }.memWrite 0xFF0F (g.ifReg &&& 0xFE)
  GameBoy.spend 20 { g1.push16 g1.pc with pc := 0x0040 }

/-- Return: `PC` from the stack (rule R267). -/
def GameBoy.returnPc (g : GameBoy) : GameBoy := { g.popped with pc := g.popValue }

/-- Return from an interrupt: `PC` from the stack and `ime` set at once (rules R269, R409). -/
def GameBoy.returnFromInterrupt (g : GameBoy) : GameBoy := { g.returnPc with ime := true }

/-! ## Storing an instruction for the fetch -/

/-- Put one byte behind a bus address: in the ROM image for the ROM ranges (made long enough), in `mem` elsewhere. -/
def GameBoy.place (g : GameBoy) (addr : Word) (v : Byte) : GameBoy :=
  let inRom (offset : Nat) : GameBoy :=
    { g with rom := Memory.write romInit g.rom offset v, romLen := max 32768 (max g.romLen (offset + 1)) }
  match regionOf addr with
  | .ramGate => inRom addr.toNat
  | .bankSelect => inRom addr.toNat
  | .romWindow => inRom (g.romBank.toNat * 0x4000 + (addr.toNat - 0x4000))
  | .eram => { g.setCell addr.toNat v with ramEnabled := true }
  | _ => g.setCell (storageAddr addr) v

/-- Put bytes behind consecutive bus addresses. -/
def GameBoy.placeBytes (g : GameBoy) (addr : Word) : List Byte → GameBoy
  | [] => g
  | v :: rest => (g.place addr v).placeBytes (addr + 1) rest

/-! ## The CHIP-8 machine's registers, memory and display -/

/-- `V[x]` (rule R41). -/
def Chip8.reg (c : Chip8) (x : Nibble) : Byte := c.v[x.toNat]'(x.isLt)

/-- Write `V[x]`. -/
def Chip8.setReg (c : Chip8) (x : Nibble) (v : Byte) : Chip8 := { c with v := c.v.set x.toNat v x.isLt }

/-- Write `V[x]`, then the flag `VF` (rule R318: "`V[x]` is written, then `VF` is written"). -/
def Chip8.setRegFlag (c : Chip8) (x : Nibble) (v : Byte) (flag : Bool) : Chip8 :=
  (c.setReg x v).setReg 0xF (if flag then 1 else 0)

/-- `MemRead(a, 1)`, addresses modulo 4096 (rule R347). -/
def Chip8.load (c : Chip8) (addr : Addr12) : Byte := Memory.read ch8Init c.memory addr.toNat

/-- `MemWrite(a, 1, v)`. -/
def Chip8.store (c : Chip8) (addr : Addr12) (v : Byte) : Chip8 :=
  { c with memory := Memory.write ch8Init c.memory addr.toNat v }

/-- The instruction word at `pc`, big-endian (rule R300). -/
def Chip8.fetchWord (c : Chip8) : Word := joinBytes (c.load c.pc) (c.load (c.pc + 1))

/-- `pc <- (pc + 2) & 0x0FFF`: past a fetched word, or over the next one (rules R300, R309). -/
def Chip8.advance (c : Chip8) : Chip8 := { c with pc := c.pc + 2 }

/-- Skip the next instruction if a test holds. -/
def Chip8.skipIf (c : Chip8) (test : Bool) : Chip8 := if test then c.advance else c

/-- `keys[k]` (rule R47). -/
def Chip8.key (c : Chip8) (k : Nibble) : Bool := c.keys[k.toNat]'(k.isLt)

/-- The pixel at column `x` and row `y`; 0 outside the display (rule R345). -/
def Chip8.pixel (c : Chip8) (x y : Nat) : Bool := if h : y < 32 then (c.gfx[y]'h).getLsbD x else false

/-- `gfx[y][x] <- gfx[y][x] xor 1`. -/
def Chip8.flipPixel (c : Chip8) (x y : Nat) : Chip8 :=
  if h : y < 32 then { c with gfx := c.gfx.set y (c.gfx[y]'h ^^^ BitVec.twoPow 64 x) h } else c

/-- Put bytes at consecutive CHIP-8 addresses. -/
def Chip8.placeBytes (c : Chip8) (addr : Addr12) : List Byte → Chip8
  | [] => c
  | v :: rest => (c.store addr v).placeBytes (addr + 1) rest

/-! ## Meanings as outcomes -/

/-- What a meaning answers. -/
abbrev Result := Host.Outcome State Fault Refusal

/-- A meaning that only changes the Game Boy machine and always completes. -/
def gbNext (f : GameBoy → GameBoy) (s : State) : Result :=
  .next { s with gb := f s.gb }

/-- A meaning that only changes the CHIP-8 machine and always completes. -/
def ch8Next (f : Chip8 → Chip8) (s : State) : Result :=
  .next { s with ch8 := f s.ch8 }

end Sys2Proof.Machine
end

