-- ==== Sys2Proof/Machine/Operands.lean ====
section
/-! DEFINITION. The operand forms: the 8-bit operand by its code (spec/30_encoding.md rule R104, spec/44_rotate_shift.md rule R234), the
condition codes (rule R107), and the effective addresses of the 8-bit loads (spec/40_load8.md rule R149). -/

namespace Sys2Proof.Machine

/-- `get()` (rule R234): a register, or the byte at `HL`. -/
def GameBoy.get (g : GameBoy) : Operand → Byte
  | .reg r => g.r8 r
  | .atHL => g.load g.hl

/-- `put(r)` (rule R234): a register, or the byte at `HL`. -/
def GameBoy.put (g : GameBoy) (x : Operand) (v : Byte) : GameBoy :=
  match x with
  | .reg r => g.setR8 r v
  | .atHL => g.memWrite g.hl v

/-- The cost of an instruction that has a register form and an `(HL)` form (rule R462). -/
def operandCost (x : Operand) (register memory : Nat) : Nat :=
  match x with
  | .reg _ => register
  | .atHL => memory

/-- `cond(cc)` (rule R107). -/
def GameBoy.cond (g : GameBoy) : Cond → Bool
  | .nz => !g.f.z
  | .z => g.f.z
  | .nc => !g.f.c
  | .c => g.f.c

/-- `0xFF00 + n`: the high-page addresses (rules R141 to R144). -/
def highPage (n : Byte) : Word := 0xFF00 + n.setWidth 16

/-- `PC + sext_16(e)` with `PC` past the instruction (rules R25, R263). -/
def GameBoy.relative (g : GameBoy) (e : Byte) : Word := g.pc + sext16 e

/-- `SP + sext_16(e)` (rules R163, R223). -/
def GameBoy.spPlus (g : GameBoy) (e : Byte) : Word := g.sp + sext16 e

end Sys2Proof.Machine
end

