-- ==== Sys2Proof/Machine/Alu16.lean ====
section
/-! DEFINITION. The 16-bit arithmetic (spec/43_alu16.md). -/

namespace Sys2Proof.Machine

/-- `ADD HL,rr` (rule R220). -/
def addHl (p : R16) (g : GameBoy) : GameBoy :=
  ({ g.setHl (add16 g.hl (g.r16 p) g.f).1 with f := (add16 g.hl (g.r16 p) g.f).2 } : GameBoy).spend 8

/-- `INC rr` (rule R221). -/
def incPair (p : R16) (g : GameBoy) : GameBoy := (g.setR16 p (g.r16 p + 1)).spend 8

/-- `DEC rr` (rule R222). -/
def decPair (p : R16) (g : GameBoy) : GameBoy := (g.setR16 p (g.r16 p - 1)).spend 8

/-- `ADD SP,e` (rule R223). -/
def addSpE (e : Byte) (g : GameBoy) : GameBoy :=
  ({ g with sp := g.spPlus e, f := spOffsetFlags g.sp e } : GameBoy).spend 16

/-! ## The meanings, one for each instruction -/

/-- `INC BC`, opcode 03 (rule R221). -/
def execInc_BC (s : State) : Result := gbNext (incPair .bc) s

/-- `ADD HL,BC`, opcode 09 (rule R220). -/
def execAdd_HL_BC (s : State) : Result := gbNext (addHl .bc) s

/-- `DEC BC`, opcode 0B (rule R222). -/
def execDec_BC (s : State) : Result := gbNext (decPair .bc) s

/-- `INC DE`, opcode 13 (rule R221). -/
def execInc_DE (s : State) : Result := gbNext (incPair .de) s

/-- `ADD HL,DE`, opcode 19 (rule R220). -/
def execAdd_HL_DE (s : State) : Result := gbNext (addHl .de) s

/-- `DEC DE`, opcode 1B (rule R222). -/
def execDec_DE (s : State) : Result := gbNext (decPair .de) s

/-- `INC HL`, opcode 23 (rule R221). -/
def execInc_HL (s : State) : Result := gbNext (incPair .hl) s

/-- `ADD HL,HL`, opcode 29 (rule R220). -/
def execAdd_HL_HL (s : State) : Result := gbNext (addHl .hl) s

/-- `DEC HL`, opcode 2B (rule R222). -/
def execDec_HL (s : State) : Result := gbNext (decPair .hl) s

/-- `INC SP`, opcode 33 (rule R221). -/
def execInc_SP (s : State) : Result := gbNext (incPair .sp) s

/-- `ADD HL,SP`, opcode 39 (rule R220). -/
def execAdd_HL_SP (s : State) : Result := gbNext (addHl .sp) s

/-- `DEC SP`, opcode 3B (rule R222). -/
def execDec_SP (s : State) : Result := gbNext (decPair .sp) s

/-- `ADD SP,e`, opcode E8 (rule R223). -/
def execAdd_SP_e (e : Byte) (s : State) : Result := gbNext (addSpE e) s

end Sys2Proof.Machine
end

