-- ==== Sys2Proof/Machine/Alu8.lean ====
section
/-! DEFINITION. The 8-bit arithmetic and logic instructions (spec/42_alu8.md). -/

namespace Sys2Proof.Machine

/-- Run an ALU operation on `A` and a value (rules R170 to R177). -/
def aluRun (op : AluOp) (v : Byte) (g : GameBoy) : GameBoy :=
  { g with a := (aluResult op g.a v g.f.c).1, f := (aluResult op g.a v g.f.c).2 }

/-- An ALU operation with a register or `(HL)` operand: 4 or 8 cycles. -/
def aluOperand (op : AluOp) (x : Operand) (g : GameBoy) : GameBoy := (aluRun op (g.get x) g).spend (operandCost x 4 8)

/-- An ALU operation with an immediate. -/
def aluImmediate (op : AluOp) (n : Byte) (g : GameBoy) : GameBoy := (aluRun op n g).spend 8

/-- `INC` of a register or `(HL)` (rules R202, R203). -/
def incOperand (x : Operand) (g : GameBoy) : GameBoy :=
  ({ g.put x (inc8 (g.get x) g.f).1 with f := (inc8 (g.get x) g.f).2 } : GameBoy).spend (operandCost x 4 12)

/-- `DEC` of a register or `(HL)` (rules R204, R205). -/
def decOperand (x : Operand) (g : GameBoy) : GameBoy :=
  ({ g.put x (dec8 (g.get x) g.f).1 with f := (dec8 (g.get x) g.f).2 } : GameBoy).spend (operandCost x 4 12)

/-- `DAA` (rule R206). -/
def runDaa (g : GameBoy) : GameBoy := ({ g with a := (daa8 g.a g.f).1, f := (daa8 g.a g.f).2 } : GameBoy).spend 4

/-- `CPL` (rule R207). -/
def runCpl (g : GameBoy) : GameBoy :=
  ({ g with a := g.a ^^^ 0xFF, f := { g.f with n := true, h := true } } : GameBoy).spend 4

/-- `SCF` (rule R208). -/
def runScf (g : GameBoy) : GameBoy :=
  ({ g with f := { g.f with n := false, h := false, c := true } } : GameBoy).spend 4

/-- `CCF` (rule R209). -/
def runCcf (g : GameBoy) : GameBoy :=
  ({ g with f := { g.f with n := false, h := false, c := !g.f.c } } : GameBoy).spend 4

/-! ## The meanings, one for each instruction -/

/-- `INC B`, opcode 04 (rule R202). -/
def execInc_B (s : State) : Result := gbNext (incOperand (.reg .b)) s

/-- `DEC B`, opcode 05 (rule R204). -/
def execDec_B (s : State) : Result := gbNext (decOperand (.reg .b)) s

/-- `INC C`, opcode 0C (rule R202). -/
def execInc_C (s : State) : Result := gbNext (incOperand (.reg .c)) s

/-- `DEC C`, opcode 0D (rule R204). -/
def execDec_C (s : State) : Result := gbNext (decOperand (.reg .c)) s

/-- `INC D`, opcode 14 (rule R202). -/
def execInc_D (s : State) : Result := gbNext (incOperand (.reg .d)) s

/-- `DEC D`, opcode 15 (rule R204). -/
def execDec_D (s : State) : Result := gbNext (decOperand (.reg .d)) s

/-- `INC E`, opcode 1C (rule R202). -/
def execInc_E (s : State) : Result := gbNext (incOperand (.reg .e)) s

/-- `DEC E`, opcode 1D (rule R204). -/
def execDec_E (s : State) : Result := gbNext (decOperand (.reg .e)) s

/-- `INC H`, opcode 24 (rule R202). -/
def execInc_H (s : State) : Result := gbNext (incOperand (.reg .h)) s

/-- `DEC H`, opcode 25 (rule R204). -/
def execDec_H (s : State) : Result := gbNext (decOperand (.reg .h)) s

/-- `DAA`, opcode 27 (rule R206). -/
def execDaa (s : State) : Result := gbNext runDaa s

/-- `INC L`, opcode 2C (rule R202). -/
def execInc_L (s : State) : Result := gbNext (incOperand (.reg .l)) s

/-- `DEC L`, opcode 2D (rule R204). -/
def execDec_L (s : State) : Result := gbNext (decOperand (.reg .l)) s

/-- `CPL`, opcode 2F (rule R207). -/
def execCpl (s : State) : Result := gbNext runCpl s

/-- `INC (HL)`, opcode 34 (rule R203). -/
def execInc_atHL (s : State) : Result := gbNext (incOperand .atHL) s

/-- `DEC (HL)`, opcode 35 (rule R205). -/
def execDec_atHL (s : State) : Result := gbNext (decOperand .atHL) s

/-- `SCF`, opcode 37 (rule R208). -/
def execScf (s : State) : Result := gbNext runScf s

/-- `INC A`, opcode 3C (rule R202). -/
def execInc_A (s : State) : Result := gbNext (incOperand (.reg .a)) s

/-- `DEC A`, opcode 3D (rule R204). -/
def execDec_A (s : State) : Result := gbNext (decOperand (.reg .a)) s

/-- `CCF`, opcode 3F (rule R209). -/
def execCcf (s : State) : Result := gbNext runCcf s

/-- `ADD A,B`, opcode 80 (rule R178). -/
def execAdd_A_B (s : State) : Result := gbNext (aluOperand .add (.reg .b)) s

/-- `ADD A,C`, opcode 81 (rule R178). -/
def execAdd_A_C (s : State) : Result := gbNext (aluOperand .add (.reg .c)) s

/-- `ADD A,D`, opcode 82 (rule R178). -/
def execAdd_A_D (s : State) : Result := gbNext (aluOperand .add (.reg .d)) s

/-- `ADD A,E`, opcode 83 (rule R178). -/
def execAdd_A_E (s : State) : Result := gbNext (aluOperand .add (.reg .e)) s

/-- `ADD A,H`, opcode 84 (rule R178). -/
def execAdd_A_H (s : State) : Result := gbNext (aluOperand .add (.reg .h)) s

/-- `ADD A,L`, opcode 85 (rule R178). -/
def execAdd_A_L (s : State) : Result := gbNext (aluOperand .add (.reg .l)) s

/-- `ADD A,(HL)`, opcode 86 (rule R179). -/
def execAdd_A_atHL (s : State) : Result := gbNext (aluOperand .add .atHL) s

/-- `ADD A,A`, opcode 87 (rule R178). -/
def execAdd_A_A (s : State) : Result := gbNext (aluOperand .add (.reg .a)) s

/-- `ADC A,B`, opcode 88 (rule R181). -/
def execAdc_A_B (s : State) : Result := gbNext (aluOperand .adc (.reg .b)) s

/-- `ADC A,C`, opcode 89 (rule R181). -/
def execAdc_A_C (s : State) : Result := gbNext (aluOperand .adc (.reg .c)) s

/-- `ADC A,D`, opcode 8A (rule R181). -/
def execAdc_A_D (s : State) : Result := gbNext (aluOperand .adc (.reg .d)) s

/-- `ADC A,E`, opcode 8B (rule R181). -/
def execAdc_A_E (s : State) : Result := gbNext (aluOperand .adc (.reg .e)) s

/-- `ADC A,H`, opcode 8C (rule R181). -/
def execAdc_A_H (s : State) : Result := gbNext (aluOperand .adc (.reg .h)) s

/-- `ADC A,L`, opcode 8D (rule R181). -/
def execAdc_A_L (s : State) : Result := gbNext (aluOperand .adc (.reg .l)) s

/-- `ADC A,(HL)`, opcode 8E (rule R182). -/
def execAdc_A_atHL (s : State) : Result := gbNext (aluOperand .adc .atHL) s

/-- `ADC A,A`, opcode 8F (rule R181). -/
def execAdc_A_A (s : State) : Result := gbNext (aluOperand .adc (.reg .a)) s

/-- `SUB B`, opcode 90 (rule R184). -/
def execSub_B (s : State) : Result := gbNext (aluOperand .sub (.reg .b)) s

/-- `SUB C`, opcode 91 (rule R184). -/
def execSub_C (s : State) : Result := gbNext (aluOperand .sub (.reg .c)) s

/-- `SUB D`, opcode 92 (rule R184). -/
def execSub_D (s : State) : Result := gbNext (aluOperand .sub (.reg .d)) s

/-- `SUB E`, opcode 93 (rule R184). -/
def execSub_E (s : State) : Result := gbNext (aluOperand .sub (.reg .e)) s

/-- `SUB H`, opcode 94 (rule R184). -/
def execSub_H (s : State) : Result := gbNext (aluOperand .sub (.reg .h)) s

/-- `SUB L`, opcode 95 (rule R184). -/
def execSub_L (s : State) : Result := gbNext (aluOperand .sub (.reg .l)) s

/-- `SUB (HL)`, opcode 96 (rule R185). -/
def execSub_atHL (s : State) : Result := gbNext (aluOperand .sub .atHL) s

/-- `SUB A`, opcode 97 (rule R184). -/
def execSub_A (s : State) : Result := gbNext (aluOperand .sub (.reg .a)) s

/-- `SBC A,B`, opcode 98 (rule R187). -/
def execSbc_A_B (s : State) : Result := gbNext (aluOperand .sbc (.reg .b)) s

/-- `SBC A,C`, opcode 99 (rule R187). -/
def execSbc_A_C (s : State) : Result := gbNext (aluOperand .sbc (.reg .c)) s

/-- `SBC A,D`, opcode 9A (rule R187). -/
def execSbc_A_D (s : State) : Result := gbNext (aluOperand .sbc (.reg .d)) s

/-- `SBC A,E`, opcode 9B (rule R187). -/
def execSbc_A_E (s : State) : Result := gbNext (aluOperand .sbc (.reg .e)) s

/-- `SBC A,H`, opcode 9C (rule R187). -/
def execSbc_A_H (s : State) : Result := gbNext (aluOperand .sbc (.reg .h)) s

/-- `SBC A,L`, opcode 9D (rule R187). -/
def execSbc_A_L (s : State) : Result := gbNext (aluOperand .sbc (.reg .l)) s

/-- `SBC A,(HL)`, opcode 9E (rule R188). -/
def execSbc_A_atHL (s : State) : Result := gbNext (aluOperand .sbc .atHL) s

/-- `SBC A,A`, opcode 9F (rule R187). -/
def execSbc_A_A (s : State) : Result := gbNext (aluOperand .sbc (.reg .a)) s

/-- `AND B`, opcode A0 (rule R190). -/
def execAnd_B (s : State) : Result := gbNext (aluOperand .and (.reg .b)) s

/-- `AND C`, opcode A1 (rule R190). -/
def execAnd_C (s : State) : Result := gbNext (aluOperand .and (.reg .c)) s

/-- `AND D`, opcode A2 (rule R190). -/
def execAnd_D (s : State) : Result := gbNext (aluOperand .and (.reg .d)) s

/-- `AND E`, opcode A3 (rule R190). -/
def execAnd_E (s : State) : Result := gbNext (aluOperand .and (.reg .e)) s

/-- `AND H`, opcode A4 (rule R190). -/
def execAnd_H (s : State) : Result := gbNext (aluOperand .and (.reg .h)) s

/-- `AND L`, opcode A5 (rule R190). -/
def execAnd_L (s : State) : Result := gbNext (aluOperand .and (.reg .l)) s

/-- `AND (HL)`, opcode A6 (rule R191). -/
def execAnd_atHL (s : State) : Result := gbNext (aluOperand .and .atHL) s

/-- `AND A`, opcode A7 (rule R190). -/
def execAnd_A (s : State) : Result := gbNext (aluOperand .and (.reg .a)) s

/-- `XOR B`, opcode A8 (rule R193). -/
def execXor_B (s : State) : Result := gbNext (aluOperand .xor (.reg .b)) s

/-- `XOR C`, opcode A9 (rule R193). -/
def execXor_C (s : State) : Result := gbNext (aluOperand .xor (.reg .c)) s

/-- `XOR D`, opcode AA (rule R193). -/
def execXor_D (s : State) : Result := gbNext (aluOperand .xor (.reg .d)) s

/-- `XOR E`, opcode AB (rule R193). -/
def execXor_E (s : State) : Result := gbNext (aluOperand .xor (.reg .e)) s

/-- `XOR H`, opcode AC (rule R193). -/
def execXor_H (s : State) : Result := gbNext (aluOperand .xor (.reg .h)) s

/-- `XOR L`, opcode AD (rule R193). -/
def execXor_L (s : State) : Result := gbNext (aluOperand .xor (.reg .l)) s

/-- `XOR (HL)`, opcode AE (rule R194). -/
def execXor_atHL (s : State) : Result := gbNext (aluOperand .xor .atHL) s

/-- `XOR A`, opcode AF (rule R193). -/
def execXor_A (s : State) : Result := gbNext (aluOperand .xor (.reg .a)) s

/-- `OR B`, opcode B0 (rule R196). -/
def execOr_B (s : State) : Result := gbNext (aluOperand .or (.reg .b)) s

/-- `OR C`, opcode B1 (rule R196). -/
def execOr_C (s : State) : Result := gbNext (aluOperand .or (.reg .c)) s

/-- `OR D`, opcode B2 (rule R196). -/
def execOr_D (s : State) : Result := gbNext (aluOperand .or (.reg .d)) s

/-- `OR E`, opcode B3 (rule R196). -/
def execOr_E (s : State) : Result := gbNext (aluOperand .or (.reg .e)) s

/-- `OR H`, opcode B4 (rule R196). -/
def execOr_H (s : State) : Result := gbNext (aluOperand .or (.reg .h)) s

/-- `OR L`, opcode B5 (rule R196). -/
def execOr_L (s : State) : Result := gbNext (aluOperand .or (.reg .l)) s

/-- `OR (HL)`, opcode B6 (rule R197). -/
def execOr_atHL (s : State) : Result := gbNext (aluOperand .or .atHL) s

/-- `OR A`, opcode B7 (rule R196). -/
def execOr_A (s : State) : Result := gbNext (aluOperand .or (.reg .a)) s

/-- `CP B`, opcode B8 (rule R199). -/
def execCp_B (s : State) : Result := gbNext (aluOperand .cp (.reg .b)) s

/-- `CP C`, opcode B9 (rule R199). -/
def execCp_C (s : State) : Result := gbNext (aluOperand .cp (.reg .c)) s

/-- `CP D`, opcode BA (rule R199). -/
def execCp_D (s : State) : Result := gbNext (aluOperand .cp (.reg .d)) s

/-- `CP E`, opcode BB (rule R199). -/
def execCp_E (s : State) : Result := gbNext (aluOperand .cp (.reg .e)) s

/-- `CP H`, opcode BC (rule R199). -/
def execCp_H (s : State) : Result := gbNext (aluOperand .cp (.reg .h)) s

/-- `CP L`, opcode BD (rule R199). -/
def execCp_L (s : State) : Result := gbNext (aluOperand .cp (.reg .l)) s

/-- `CP (HL)`, opcode BE (rule R200). -/
def execCp_atHL (s : State) : Result := gbNext (aluOperand .cp .atHL) s

/-- `CP A`, opcode BF (rule R199). -/
def execCp_A (s : State) : Result := gbNext (aluOperand .cp (.reg .a)) s

/-- `ADD A,n`, opcode C6 (rule R180). -/
def execAdd_A_n (n : Byte) (s : State) : Result := gbNext (aluImmediate .add n) s

/-- `ADC A,n`, opcode CE (rule R183). -/
def execAdc_A_n (n : Byte) (s : State) : Result := gbNext (aluImmediate .adc n) s

/-- `SUB n`, opcode D6 (rule R186). -/
def execSub_n (n : Byte) (s : State) : Result := gbNext (aluImmediate .sub n) s

/-- `SBC A,n`, opcode DE (rule R189). -/
def execSbc_A_n (n : Byte) (s : State) : Result := gbNext (aluImmediate .sbc n) s

/-- `AND n`, opcode E6 (rule R192). -/
def execAnd_n (n : Byte) (s : State) : Result := gbNext (aluImmediate .and n) s

/-- `XOR n`, opcode EE (rule R195). -/
def execXor_n (n : Byte) (s : State) : Result := gbNext (aluImmediate .xor n) s

/-- `OR n`, opcode F6 (rule R198). -/
def execOr_n (n : Byte) (s : State) : Result := gbNext (aluImmediate .or n) s

/-- `CP n`, opcode FE (rule R201). -/
def execCp_n (n : Byte) (s : State) : Result := gbNext (aluImmediate .cp n) s

end Sys2Proof.Machine
end

