-- ==== Sys2Proof/Machine/Bit.lean ====
section
/-! DEFINITION. Bit test, reset and set (spec/45_bit.md). -/

namespace Sys2Proof.Machine

/-- `1 << bbb`. -/
def bitMask (b : Fin 8) : Byte := 1#8 <<< b.val

/-- `BIT b` (rules R250, R251). -/
def bitTest (b : Fin 8) (x : Operand) (g : GameBoy) : GameBoy :=
  ({ g with f := { g.f with z := !(g.get x).getLsbD b.val, n := false, h := true } } : GameBoy).spend (operandCost x 8 12)

/-- `RES b` (rules R252, R253). -/
def bitReset (b : Fin 8) (x : Operand) (g : GameBoy) : GameBoy :=
  (g.put x (g.get x &&& (0xFF ^^^ bitMask b))).spend (operandCost x 8 16)

/-- `SET b` (rules R254, R255). -/
def bitSet (b : Fin 8) (x : Operand) (g : GameBoy) : GameBoy :=
  (g.put x (g.get x ||| bitMask b)).spend (operandCost x 8 16)

/-! ## The meanings, one for each instruction -/

/-- `BIT 0,B`, opcode CB 40 (rule R250). -/
def execBit_0_B (s : State) : Result := gbNext (bitTest 0 (.reg .b)) s

/-- `BIT 0,C`, opcode CB 41 (rule R250). -/
def execBit_0_C (s : State) : Result := gbNext (bitTest 0 (.reg .c)) s

/-- `BIT 0,D`, opcode CB 42 (rule R250). -/
def execBit_0_D (s : State) : Result := gbNext (bitTest 0 (.reg .d)) s

/-- `BIT 0,E`, opcode CB 43 (rule R250). -/
def execBit_0_E (s : State) : Result := gbNext (bitTest 0 (.reg .e)) s

/-- `BIT 0,H`, opcode CB 44 (rule R250). -/
def execBit_0_H (s : State) : Result := gbNext (bitTest 0 (.reg .h)) s

/-- `BIT 0,L`, opcode CB 45 (rule R250). -/
def execBit_0_L (s : State) : Result := gbNext (bitTest 0 (.reg .l)) s

/-- `BIT 0,(HL)`, opcode CB 46 (rule R251). -/
def execBit_0_atHL (s : State) : Result := gbNext (bitTest 0 .atHL) s

/-- `BIT 0,A`, opcode CB 47 (rule R250). -/
def execBit_0_A (s : State) : Result := gbNext (bitTest 0 (.reg .a)) s

/-- `BIT 1,B`, opcode CB 48 (rule R250). -/
def execBit_1_B (s : State) : Result := gbNext (bitTest 1 (.reg .b)) s

/-- `BIT 1,C`, opcode CB 49 (rule R250). -/
def execBit_1_C (s : State) : Result := gbNext (bitTest 1 (.reg .c)) s

/-- `BIT 1,D`, opcode CB 4A (rule R250). -/
def execBit_1_D (s : State) : Result := gbNext (bitTest 1 (.reg .d)) s

/-- `BIT 1,E`, opcode CB 4B (rule R250). -/
def execBit_1_E (s : State) : Result := gbNext (bitTest 1 (.reg .e)) s

/-- `BIT 1,H`, opcode CB 4C (rule R250). -/
def execBit_1_H (s : State) : Result := gbNext (bitTest 1 (.reg .h)) s

/-- `BIT 1,L`, opcode CB 4D (rule R250). -/
def execBit_1_L (s : State) : Result := gbNext (bitTest 1 (.reg .l)) s

/-- `BIT 1,(HL)`, opcode CB 4E (rule R251). -/
def execBit_1_atHL (s : State) : Result := gbNext (bitTest 1 .atHL) s

/-- `BIT 1,A`, opcode CB 4F (rule R250). -/
def execBit_1_A (s : State) : Result := gbNext (bitTest 1 (.reg .a)) s

/-- `BIT 2,B`, opcode CB 50 (rule R250). -/
def execBit_2_B (s : State) : Result := gbNext (bitTest 2 (.reg .b)) s

/-- `BIT 2,C`, opcode CB 51 (rule R250). -/
def execBit_2_C (s : State) : Result := gbNext (bitTest 2 (.reg .c)) s

/-- `BIT 2,D`, opcode CB 52 (rule R250). -/
def execBit_2_D (s : State) : Result := gbNext (bitTest 2 (.reg .d)) s

/-- `BIT 2,E`, opcode CB 53 (rule R250). -/
def execBit_2_E (s : State) : Result := gbNext (bitTest 2 (.reg .e)) s

/-- `BIT 2,H`, opcode CB 54 (rule R250). -/
def execBit_2_H (s : State) : Result := gbNext (bitTest 2 (.reg .h)) s

/-- `BIT 2,L`, opcode CB 55 (rule R250). -/
def execBit_2_L (s : State) : Result := gbNext (bitTest 2 (.reg .l)) s

/-- `BIT 2,(HL)`, opcode CB 56 (rule R251). -/
def execBit_2_atHL (s : State) : Result := gbNext (bitTest 2 .atHL) s

/-- `BIT 2,A`, opcode CB 57 (rule R250). -/
def execBit_2_A (s : State) : Result := gbNext (bitTest 2 (.reg .a)) s

/-- `BIT 3,B`, opcode CB 58 (rule R250). -/
def execBit_3_B (s : State) : Result := gbNext (bitTest 3 (.reg .b)) s

/-- `BIT 3,C`, opcode CB 59 (rule R250). -/
def execBit_3_C (s : State) : Result := gbNext (bitTest 3 (.reg .c)) s

/-- `BIT 3,D`, opcode CB 5A (rule R250). -/
def execBit_3_D (s : State) : Result := gbNext (bitTest 3 (.reg .d)) s

/-- `BIT 3,E`, opcode CB 5B (rule R250). -/
def execBit_3_E (s : State) : Result := gbNext (bitTest 3 (.reg .e)) s

/-- `BIT 3,H`, opcode CB 5C (rule R250). -/
def execBit_3_H (s : State) : Result := gbNext (bitTest 3 (.reg .h)) s

/-- `BIT 3,L`, opcode CB 5D (rule R250). -/
def execBit_3_L (s : State) : Result := gbNext (bitTest 3 (.reg .l)) s

/-- `BIT 3,(HL)`, opcode CB 5E (rule R251). -/
def execBit_3_atHL (s : State) : Result := gbNext (bitTest 3 .atHL) s

/-- `BIT 3,A`, opcode CB 5F (rule R250). -/
def execBit_3_A (s : State) : Result := gbNext (bitTest 3 (.reg .a)) s

/-- `BIT 4,B`, opcode CB 60 (rule R250). -/
def execBit_4_B (s : State) : Result := gbNext (bitTest 4 (.reg .b)) s

/-- `BIT 4,C`, opcode CB 61 (rule R250). -/
def execBit_4_C (s : State) : Result := gbNext (bitTest 4 (.reg .c)) s

/-- `BIT 4,D`, opcode CB 62 (rule R250). -/
def execBit_4_D (s : State) : Result := gbNext (bitTest 4 (.reg .d)) s

/-- `BIT 4,E`, opcode CB 63 (rule R250). -/
def execBit_4_E (s : State) : Result := gbNext (bitTest 4 (.reg .e)) s

/-- `BIT 4,H`, opcode CB 64 (rule R250). -/
def execBit_4_H (s : State) : Result := gbNext (bitTest 4 (.reg .h)) s

/-- `BIT 4,L`, opcode CB 65 (rule R250). -/
def execBit_4_L (s : State) : Result := gbNext (bitTest 4 (.reg .l)) s

/-- `BIT 4,(HL)`, opcode CB 66 (rule R251). -/
def execBit_4_atHL (s : State) : Result := gbNext (bitTest 4 .atHL) s

/-- `BIT 4,A`, opcode CB 67 (rule R250). -/
def execBit_4_A (s : State) : Result := gbNext (bitTest 4 (.reg .a)) s

/-- `BIT 5,B`, opcode CB 68 (rule R250). -/
def execBit_5_B (s : State) : Result := gbNext (bitTest 5 (.reg .b)) s

/-- `BIT 5,C`, opcode CB 69 (rule R250). -/
def execBit_5_C (s : State) : Result := gbNext (bitTest 5 (.reg .c)) s

/-- `BIT 5,D`, opcode CB 6A (rule R250). -/
def execBit_5_D (s : State) : Result := gbNext (bitTest 5 (.reg .d)) s

/-- `BIT 5,E`, opcode CB 6B (rule R250). -/
def execBit_5_E (s : State) : Result := gbNext (bitTest 5 (.reg .e)) s

/-- `BIT 5,H`, opcode CB 6C (rule R250). -/
def execBit_5_H (s : State) : Result := gbNext (bitTest 5 (.reg .h)) s

/-- `BIT 5,L`, opcode CB 6D (rule R250). -/
def execBit_5_L (s : State) : Result := gbNext (bitTest 5 (.reg .l)) s

/-- `BIT 5,(HL)`, opcode CB 6E (rule R251). -/
def execBit_5_atHL (s : State) : Result := gbNext (bitTest 5 .atHL) s

/-- `BIT 5,A`, opcode CB 6F (rule R250). -/
def execBit_5_A (s : State) : Result := gbNext (bitTest 5 (.reg .a)) s

/-- `BIT 6,B`, opcode CB 70 (rule R250). -/
def execBit_6_B (s : State) : Result := gbNext (bitTest 6 (.reg .b)) s

/-- `BIT 6,C`, opcode CB 71 (rule R250). -/
def execBit_6_C (s : State) : Result := gbNext (bitTest 6 (.reg .c)) s

/-- `BIT 6,D`, opcode CB 72 (rule R250). -/
def execBit_6_D (s : State) : Result := gbNext (bitTest 6 (.reg .d)) s

/-- `BIT 6,E`, opcode CB 73 (rule R250). -/
def execBit_6_E (s : State) : Result := gbNext (bitTest 6 (.reg .e)) s

/-- `BIT 6,H`, opcode CB 74 (rule R250). -/
def execBit_6_H (s : State) : Result := gbNext (bitTest 6 (.reg .h)) s

/-- `BIT 6,L`, opcode CB 75 (rule R250). -/
def execBit_6_L (s : State) : Result := gbNext (bitTest 6 (.reg .l)) s

/-- `BIT 6,(HL)`, opcode CB 76 (rule R251). -/
def execBit_6_atHL (s : State) : Result := gbNext (bitTest 6 .atHL) s

/-- `BIT 6,A`, opcode CB 77 (rule R250). -/
def execBit_6_A (s : State) : Result := gbNext (bitTest 6 (.reg .a)) s

/-- `BIT 7,B`, opcode CB 78 (rule R250). -/
def execBit_7_B (s : State) : Result := gbNext (bitTest 7 (.reg .b)) s

/-- `BIT 7,C`, opcode CB 79 (rule R250). -/
def execBit_7_C (s : State) : Result := gbNext (bitTest 7 (.reg .c)) s

/-- `BIT 7,D`, opcode CB 7A (rule R250). -/
def execBit_7_D (s : State) : Result := gbNext (bitTest 7 (.reg .d)) s

/-- `BIT 7,E`, opcode CB 7B (rule R250). -/
def execBit_7_E (s : State) : Result := gbNext (bitTest 7 (.reg .e)) s

/-- `BIT 7,H`, opcode CB 7C (rule R250). -/
def execBit_7_H (s : State) : Result := gbNext (bitTest 7 (.reg .h)) s

/-- `BIT 7,L`, opcode CB 7D (rule R250). -/
def execBit_7_L (s : State) : Result := gbNext (bitTest 7 (.reg .l)) s

/-- `BIT 7,(HL)`, opcode CB 7E (rule R251). -/
def execBit_7_atHL (s : State) : Result := gbNext (bitTest 7 .atHL) s

/-- `BIT 7,A`, opcode CB 7F (rule R250). -/
def execBit_7_A (s : State) : Result := gbNext (bitTest 7 (.reg .a)) s

/-- `RES 0,B`, opcode CB 80 (rule R252). -/
def execRes_0_B (s : State) : Result := gbNext (bitReset 0 (.reg .b)) s

/-- `RES 0,C`, opcode CB 81 (rule R252). -/
def execRes_0_C (s : State) : Result := gbNext (bitReset 0 (.reg .c)) s

/-- `RES 0,D`, opcode CB 82 (rule R252). -/
def execRes_0_D (s : State) : Result := gbNext (bitReset 0 (.reg .d)) s

/-- `RES 0,E`, opcode CB 83 (rule R252). -/
def execRes_0_E (s : State) : Result := gbNext (bitReset 0 (.reg .e)) s

/-- `RES 0,H`, opcode CB 84 (rule R252). -/
def execRes_0_H (s : State) : Result := gbNext (bitReset 0 (.reg .h)) s

/-- `RES 0,L`, opcode CB 85 (rule R252). -/
def execRes_0_L (s : State) : Result := gbNext (bitReset 0 (.reg .l)) s

/-- `RES 0,(HL)`, opcode CB 86 (rule R253). -/
def execRes_0_atHL (s : State) : Result := gbNext (bitReset 0 .atHL) s

/-- `RES 0,A`, opcode CB 87 (rule R252). -/
def execRes_0_A (s : State) : Result := gbNext (bitReset 0 (.reg .a)) s

/-- `RES 1,B`, opcode CB 88 (rule R252). -/
def execRes_1_B (s : State) : Result := gbNext (bitReset 1 (.reg .b)) s

/-- `RES 1,C`, opcode CB 89 (rule R252). -/
def execRes_1_C (s : State) : Result := gbNext (bitReset 1 (.reg .c)) s

/-- `RES 1,D`, opcode CB 8A (rule R252). -/
def execRes_1_D (s : State) : Result := gbNext (bitReset 1 (.reg .d)) s

/-- `RES 1,E`, opcode CB 8B (rule R252). -/
def execRes_1_E (s : State) : Result := gbNext (bitReset 1 (.reg .e)) s

/-- `RES 1,H`, opcode CB 8C (rule R252). -/
def execRes_1_H (s : State) : Result := gbNext (bitReset 1 (.reg .h)) s

/-- `RES 1,L`, opcode CB 8D (rule R252). -/
def execRes_1_L (s : State) : Result := gbNext (bitReset 1 (.reg .l)) s

/-- `RES 1,(HL)`, opcode CB 8E (rule R253). -/
def execRes_1_atHL (s : State) : Result := gbNext (bitReset 1 .atHL) s

/-- `RES 1,A`, opcode CB 8F (rule R252). -/
def execRes_1_A (s : State) : Result := gbNext (bitReset 1 (.reg .a)) s

/-- `RES 2,B`, opcode CB 90 (rule R252). -/
def execRes_2_B (s : State) : Result := gbNext (bitReset 2 (.reg .b)) s

/-- `RES 2,C`, opcode CB 91 (rule R252). -/
def execRes_2_C (s : State) : Result := gbNext (bitReset 2 (.reg .c)) s

/-- `RES 2,D`, opcode CB 92 (rule R252). -/
def execRes_2_D (s : State) : Result := gbNext (bitReset 2 (.reg .d)) s

/-- `RES 2,E`, opcode CB 93 (rule R252). -/
def execRes_2_E (s : State) : Result := gbNext (bitReset 2 (.reg .e)) s

/-- `RES 2,H`, opcode CB 94 (rule R252). -/
def execRes_2_H (s : State) : Result := gbNext (bitReset 2 (.reg .h)) s

/-- `RES 2,L`, opcode CB 95 (rule R252). -/
def execRes_2_L (s : State) : Result := gbNext (bitReset 2 (.reg .l)) s

/-- `RES 2,(HL)`, opcode CB 96 (rule R253). -/
def execRes_2_atHL (s : State) : Result := gbNext (bitReset 2 .atHL) s

/-- `RES 2,A`, opcode CB 97 (rule R252). -/
def execRes_2_A (s : State) : Result := gbNext (bitReset 2 (.reg .a)) s

/-- `RES 3,B`, opcode CB 98 (rule R252). -/
def execRes_3_B (s : State) : Result := gbNext (bitReset 3 (.reg .b)) s

/-- `RES 3,C`, opcode CB 99 (rule R252). -/
def execRes_3_C (s : State) : Result := gbNext (bitReset 3 (.reg .c)) s

/-- `RES 3,D`, opcode CB 9A (rule R252). -/
def execRes_3_D (s : State) : Result := gbNext (bitReset 3 (.reg .d)) s

/-- `RES 3,E`, opcode CB 9B (rule R252). -/
def execRes_3_E (s : State) : Result := gbNext (bitReset 3 (.reg .e)) s

/-- `RES 3,H`, opcode CB 9C (rule R252). -/
def execRes_3_H (s : State) : Result := gbNext (bitReset 3 (.reg .h)) s

/-- `RES 3,L`, opcode CB 9D (rule R252). -/
def execRes_3_L (s : State) : Result := gbNext (bitReset 3 (.reg .l)) s

/-- `RES 3,(HL)`, opcode CB 9E (rule R253). -/
def execRes_3_atHL (s : State) : Result := gbNext (bitReset 3 .atHL) s

/-- `RES 3,A`, opcode CB 9F (rule R252). -/
def execRes_3_A (s : State) : Result := gbNext (bitReset 3 (.reg .a)) s

/-- `RES 4,B`, opcode CB A0 (rule R252). -/
def execRes_4_B (s : State) : Result := gbNext (bitReset 4 (.reg .b)) s

/-- `RES 4,C`, opcode CB A1 (rule R252). -/
def execRes_4_C (s : State) : Result := gbNext (bitReset 4 (.reg .c)) s

/-- `RES 4,D`, opcode CB A2 (rule R252). -/
def execRes_4_D (s : State) : Result := gbNext (bitReset 4 (.reg .d)) s

/-- `RES 4,E`, opcode CB A3 (rule R252). -/
def execRes_4_E (s : State) : Result := gbNext (bitReset 4 (.reg .e)) s

/-- `RES 4,H`, opcode CB A4 (rule R252). -/
def execRes_4_H (s : State) : Result := gbNext (bitReset 4 (.reg .h)) s

/-- `RES 4,L`, opcode CB A5 (rule R252). -/
def execRes_4_L (s : State) : Result := gbNext (bitReset 4 (.reg .l)) s

/-- `RES 4,(HL)`, opcode CB A6 (rule R253). -/
def execRes_4_atHL (s : State) : Result := gbNext (bitReset 4 .atHL) s

/-- `RES 4,A`, opcode CB A7 (rule R252). -/
def execRes_4_A (s : State) : Result := gbNext (bitReset 4 (.reg .a)) s

/-- `RES 5,B`, opcode CB A8 (rule R252). -/
def execRes_5_B (s : State) : Result := gbNext (bitReset 5 (.reg .b)) s

/-- `RES 5,C`, opcode CB A9 (rule R252). -/
def execRes_5_C (s : State) : Result := gbNext (bitReset 5 (.reg .c)) s

/-- `RES 5,D`, opcode CB AA (rule R252). -/
def execRes_5_D (s : State) : Result := gbNext (bitReset 5 (.reg .d)) s

/-- `RES 5,E`, opcode CB AB (rule R252). -/
def execRes_5_E (s : State) : Result := gbNext (bitReset 5 (.reg .e)) s

/-- `RES 5,H`, opcode CB AC (rule R252). -/
def execRes_5_H (s : State) : Result := gbNext (bitReset 5 (.reg .h)) s

/-- `RES 5,L`, opcode CB AD (rule R252). -/
def execRes_5_L (s : State) : Result := gbNext (bitReset 5 (.reg .l)) s

/-- `RES 5,(HL)`, opcode CB AE (rule R253). -/
def execRes_5_atHL (s : State) : Result := gbNext (bitReset 5 .atHL) s

/-- `RES 5,A`, opcode CB AF (rule R252). -/
def execRes_5_A (s : State) : Result := gbNext (bitReset 5 (.reg .a)) s

/-- `RES 6,B`, opcode CB B0 (rule R252). -/
def execRes_6_B (s : State) : Result := gbNext (bitReset 6 (.reg .b)) s

/-- `RES 6,C`, opcode CB B1 (rule R252). -/
def execRes_6_C (s : State) : Result := gbNext (bitReset 6 (.reg .c)) s

/-- `RES 6,D`, opcode CB B2 (rule R252). -/
def execRes_6_D (s : State) : Result := gbNext (bitReset 6 (.reg .d)) s

/-- `RES 6,E`, opcode CB B3 (rule R252). -/
def execRes_6_E (s : State) : Result := gbNext (bitReset 6 (.reg .e)) s

/-- `RES 6,H`, opcode CB B4 (rule R252). -/
def execRes_6_H (s : State) : Result := gbNext (bitReset 6 (.reg .h)) s

/-- `RES 6,L`, opcode CB B5 (rule R252). -/
def execRes_6_L (s : State) : Result := gbNext (bitReset 6 (.reg .l)) s

/-- `RES 6,(HL)`, opcode CB B6 (rule R253). -/
def execRes_6_atHL (s : State) : Result := gbNext (bitReset 6 .atHL) s

/-- `RES 6,A`, opcode CB B7 (rule R252). -/
def execRes_6_A (s : State) : Result := gbNext (bitReset 6 (.reg .a)) s

/-- `RES 7,B`, opcode CB B8 (rule R252). -/
def execRes_7_B (s : State) : Result := gbNext (bitReset 7 (.reg .b)) s

/-- `RES 7,C`, opcode CB B9 (rule R252). -/
def execRes_7_C (s : State) : Result := gbNext (bitReset 7 (.reg .c)) s

/-- `RES 7,D`, opcode CB BA (rule R252). -/
def execRes_7_D (s : State) : Result := gbNext (bitReset 7 (.reg .d)) s

/-- `RES 7,E`, opcode CB BB (rule R252). -/
def execRes_7_E (s : State) : Result := gbNext (bitReset 7 (.reg .e)) s

/-- `RES 7,H`, opcode CB BC (rule R252). -/
def execRes_7_H (s : State) : Result := gbNext (bitReset 7 (.reg .h)) s

/-- `RES 7,L`, opcode CB BD (rule R252). -/
def execRes_7_L (s : State) : Result := gbNext (bitReset 7 (.reg .l)) s

/-- `RES 7,(HL)`, opcode CB BE (rule R253). -/
def execRes_7_atHL (s : State) : Result := gbNext (bitReset 7 .atHL) s

/-- `RES 7,A`, opcode CB BF (rule R252). -/
def execRes_7_A (s : State) : Result := gbNext (bitReset 7 (.reg .a)) s

/-- `SET 0,B`, opcode CB C0 (rule R254). -/
def execSet_0_B (s : State) : Result := gbNext (bitSet 0 (.reg .b)) s

/-- `SET 0,C`, opcode CB C1 (rule R254). -/
def execSet_0_C (s : State) : Result := gbNext (bitSet 0 (.reg .c)) s

/-- `SET 0,D`, opcode CB C2 (rule R254). -/
def execSet_0_D (s : State) : Result := gbNext (bitSet 0 (.reg .d)) s

/-- `SET 0,E`, opcode CB C3 (rule R254). -/
def execSet_0_E (s : State) : Result := gbNext (bitSet 0 (.reg .e)) s

/-- `SET 0,H`, opcode CB C4 (rule R254). -/
def execSet_0_H (s : State) : Result := gbNext (bitSet 0 (.reg .h)) s

/-- `SET 0,L`, opcode CB C5 (rule R254). -/
def execSet_0_L (s : State) : Result := gbNext (bitSet 0 (.reg .l)) s

/-- `SET 0,(HL)`, opcode CB C6 (rule R255). -/
def execSet_0_atHL (s : State) : Result := gbNext (bitSet 0 .atHL) s

/-- `SET 0,A`, opcode CB C7 (rule R254). -/
def execSet_0_A (s : State) : Result := gbNext (bitSet 0 (.reg .a)) s

/-- `SET 1,B`, opcode CB C8 (rule R254). -/
def execSet_1_B (s : State) : Result := gbNext (bitSet 1 (.reg .b)) s

/-- `SET 1,C`, opcode CB C9 (rule R254). -/
def execSet_1_C (s : State) : Result := gbNext (bitSet 1 (.reg .c)) s

/-- `SET 1,D`, opcode CB CA (rule R254). -/
def execSet_1_D (s : State) : Result := gbNext (bitSet 1 (.reg .d)) s

/-- `SET 1,E`, opcode CB CB (rule R254). -/
def execSet_1_E (s : State) : Result := gbNext (bitSet 1 (.reg .e)) s

/-- `SET 1,H`, opcode CB CC (rule R254). -/
def execSet_1_H (s : State) : Result := gbNext (bitSet 1 (.reg .h)) s

/-- `SET 1,L`, opcode CB CD (rule R254). -/
def execSet_1_L (s : State) : Result := gbNext (bitSet 1 (.reg .l)) s

/-- `SET 1,(HL)`, opcode CB CE (rule R255). -/
def execSet_1_atHL (s : State) : Result := gbNext (bitSet 1 .atHL) s

/-- `SET 1,A`, opcode CB CF (rule R254). -/
def execSet_1_A (s : State) : Result := gbNext (bitSet 1 (.reg .a)) s

/-- `SET 2,B`, opcode CB D0 (rule R254). -/
def execSet_2_B (s : State) : Result := gbNext (bitSet 2 (.reg .b)) s

/-- `SET 2,C`, opcode CB D1 (rule R254). -/
def execSet_2_C (s : State) : Result := gbNext (bitSet 2 (.reg .c)) s

/-- `SET 2,D`, opcode CB D2 (rule R254). -/
def execSet_2_D (s : State) : Result := gbNext (bitSet 2 (.reg .d)) s

/-- `SET 2,E`, opcode CB D3 (rule R254). -/
def execSet_2_E (s : State) : Result := gbNext (bitSet 2 (.reg .e)) s

/-- `SET 2,H`, opcode CB D4 (rule R254). -/
def execSet_2_H (s : State) : Result := gbNext (bitSet 2 (.reg .h)) s

/-- `SET 2,L`, opcode CB D5 (rule R254). -/
def execSet_2_L (s : State) : Result := gbNext (bitSet 2 (.reg .l)) s

/-- `SET 2,(HL)`, opcode CB D6 (rule R255). -/
def execSet_2_atHL (s : State) : Result := gbNext (bitSet 2 .atHL) s

/-- `SET 2,A`, opcode CB D7 (rule R254). -/
def execSet_2_A (s : State) : Result := gbNext (bitSet 2 (.reg .a)) s

/-- `SET 3,B`, opcode CB D8 (rule R254). -/
def execSet_3_B (s : State) : Result := gbNext (bitSet 3 (.reg .b)) s

/-- `SET 3,C`, opcode CB D9 (rule R254). -/
def execSet_3_C (s : State) : Result := gbNext (bitSet 3 (.reg .c)) s

/-- `SET 3,D`, opcode CB DA (rule R254). -/
def execSet_3_D (s : State) : Result := gbNext (bitSet 3 (.reg .d)) s

/-- `SET 3,E`, opcode CB DB (rule R254). -/
def execSet_3_E (s : State) : Result := gbNext (bitSet 3 (.reg .e)) s

/-- `SET 3,H`, opcode CB DC (rule R254). -/
def execSet_3_H (s : State) : Result := gbNext (bitSet 3 (.reg .h)) s

/-- `SET 3,L`, opcode CB DD (rule R254). -/
def execSet_3_L (s : State) : Result := gbNext (bitSet 3 (.reg .l)) s

/-- `SET 3,(HL)`, opcode CB DE (rule R255). -/
def execSet_3_atHL (s : State) : Result := gbNext (bitSet 3 .atHL) s

/-- `SET 3,A`, opcode CB DF (rule R254). -/
def execSet_3_A (s : State) : Result := gbNext (bitSet 3 (.reg .a)) s

/-- `SET 4,B`, opcode CB E0 (rule R254). -/
def execSet_4_B (s : State) : Result := gbNext (bitSet 4 (.reg .b)) s

/-- `SET 4,C`, opcode CB E1 (rule R254). -/
def execSet_4_C (s : State) : Result := gbNext (bitSet 4 (.reg .c)) s

/-- `SET 4,D`, opcode CB E2 (rule R254). -/
def execSet_4_D (s : State) : Result := gbNext (bitSet 4 (.reg .d)) s

/-- `SET 4,E`, opcode CB E3 (rule R254). -/
def execSet_4_E (s : State) : Result := gbNext (bitSet 4 (.reg .e)) s

/-- `SET 4,H`, opcode CB E4 (rule R254). -/
def execSet_4_H (s : State) : Result := gbNext (bitSet 4 (.reg .h)) s

/-- `SET 4,L`, opcode CB E5 (rule R254). -/
def execSet_4_L (s : State) : Result := gbNext (bitSet 4 (.reg .l)) s

/-- `SET 4,(HL)`, opcode CB E6 (rule R255). -/
def execSet_4_atHL (s : State) : Result := gbNext (bitSet 4 .atHL) s

/-- `SET 4,A`, opcode CB E7 (rule R254). -/
def execSet_4_A (s : State) : Result := gbNext (bitSet 4 (.reg .a)) s

/-- `SET 5,B`, opcode CB E8 (rule R254). -/
def execSet_5_B (s : State) : Result := gbNext (bitSet 5 (.reg .b)) s

/-- `SET 5,C`, opcode CB E9 (rule R254). -/
def execSet_5_C (s : State) : Result := gbNext (bitSet 5 (.reg .c)) s

/-- `SET 5,D`, opcode CB EA (rule R254). -/
def execSet_5_D (s : State) : Result := gbNext (bitSet 5 (.reg .d)) s

/-- `SET 5,E`, opcode CB EB (rule R254). -/
def execSet_5_E (s : State) : Result := gbNext (bitSet 5 (.reg .e)) s

/-- `SET 5,H`, opcode CB EC (rule R254). -/
def execSet_5_H (s : State) : Result := gbNext (bitSet 5 (.reg .h)) s

/-- `SET 5,L`, opcode CB ED (rule R254). -/
def execSet_5_L (s : State) : Result := gbNext (bitSet 5 (.reg .l)) s

/-- `SET 5,(HL)`, opcode CB EE (rule R255). -/
def execSet_5_atHL (s : State) : Result := gbNext (bitSet 5 .atHL) s

/-- `SET 5,A`, opcode CB EF (rule R254). -/
def execSet_5_A (s : State) : Result := gbNext (bitSet 5 (.reg .a)) s

/-- `SET 6,B`, opcode CB F0 (rule R254). -/
def execSet_6_B (s : State) : Result := gbNext (bitSet 6 (.reg .b)) s

/-- `SET 6,C`, opcode CB F1 (rule R254). -/
def execSet_6_C (s : State) : Result := gbNext (bitSet 6 (.reg .c)) s

/-- `SET 6,D`, opcode CB F2 (rule R254). -/
def execSet_6_D (s : State) : Result := gbNext (bitSet 6 (.reg .d)) s

/-- `SET 6,E`, opcode CB F3 (rule R254). -/
def execSet_6_E (s : State) : Result := gbNext (bitSet 6 (.reg .e)) s

/-- `SET 6,H`, opcode CB F4 (rule R254). -/
def execSet_6_H (s : State) : Result := gbNext (bitSet 6 (.reg .h)) s

/-- `SET 6,L`, opcode CB F5 (rule R254). -/
def execSet_6_L (s : State) : Result := gbNext (bitSet 6 (.reg .l)) s

/-- `SET 6,(HL)`, opcode CB F6 (rule R255). -/
def execSet_6_atHL (s : State) : Result := gbNext (bitSet 6 .atHL) s

/-- `SET 6,A`, opcode CB F7 (rule R254). -/
def execSet_6_A (s : State) : Result := gbNext (bitSet 6 (.reg .a)) s

/-- `SET 7,B`, opcode CB F8 (rule R254). -/
def execSet_7_B (s : State) : Result := gbNext (bitSet 7 (.reg .b)) s

/-- `SET 7,C`, opcode CB F9 (rule R254). -/
def execSet_7_C (s : State) : Result := gbNext (bitSet 7 (.reg .c)) s

/-- `SET 7,D`, opcode CB FA (rule R254). -/
def execSet_7_D (s : State) : Result := gbNext (bitSet 7 (.reg .d)) s

/-- `SET 7,E`, opcode CB FB (rule R254). -/
def execSet_7_E (s : State) : Result := gbNext (bitSet 7 (.reg .e)) s

/-- `SET 7,H`, opcode CB FC (rule R254). -/
def execSet_7_H (s : State) : Result := gbNext (bitSet 7 (.reg .h)) s

/-- `SET 7,L`, opcode CB FD (rule R254). -/
def execSet_7_L (s : State) : Result := gbNext (bitSet 7 (.reg .l)) s

/-- `SET 7,(HL)`, opcode CB FE (rule R255). -/
def execSet_7_atHL (s : State) : Result := gbNext (bitSet 7 .atHL) s

/-- `SET 7,A`, opcode CB FF (rule R254). -/
def execSet_7_A (s : State) : Result := gbNext (bitSet 7 (.reg .a)) s

end Sys2Proof.Machine
end

