-- ==== Sys2Proof/Machine/Chip8.lean ====
section
/-! DEFINITION. The CHIP-8 instructions (spec/49_chip8.md). A meaning starts after the fetch: `pc` holds the address of the next
instruction (rule R300). -/

namespace Sys2Proof.Machine

/-- `CLS` (rule R305). -/
def ch8Cls (c : Chip8) : Chip8 := { c with gfx := Vector.replicate 32 0 }

/-- `RET`; on underflow nothing (rule R306). -/
def ch8Ret (c : Chip8) : Chip8 :=
  if h : c.sp.val = 0 then c
  else
    have hlt := c.sp.isLt
    { c with sp := ⟨c.sp.val - 1, by omega⟩, pc := c.stack[c.sp.val - 1]'(by omega) }

/-- `JP nnn` (rule R307). -/
def ch8Jp (nnn : Addr12) (c : Chip8) : Chip8 := { c with pc := nnn }

/-- `CALL nnn`; on overflow nothing, no jump either (rule R308). -/
def ch8Call (nnn : Addr12) (c : Chip8) : Chip8 :=
  if h : c.sp.val < 16 then
    { c with stack := c.stack.set c.sp.val c.pc h, sp := ⟨c.sp.val + 1, by omega⟩, pc := nnn }
  else c

/-- `ADD Vx,Vy`: the carry to `VF` (rule R318). -/
def ch8Add (x y : Nibble) (c : Chip8) : Chip8 :=
  let s := (c.reg x).toNat + (c.reg y).toNat
  c.setRegFlag x (BitVec.ofNat 8 s) (decide (s > 255))

/-- `SUB Vx,Vy`: "no borrow" to `VF` (rule R319). -/
def ch8Sub (x y : Nibble) (c : Chip8) : Chip8 :=
  c.setRegFlag x (c.reg x - c.reg y) (decide (c.reg y ≤ c.reg x))

/-- `SUBN Vx,Vy` (rule R321). -/
def ch8Subn (x y : Nibble) (c : Chip8) : Chip8 :=
  c.setRegFlag x (c.reg y - c.reg x) (decide (c.reg x ≤ c.reg y))

/-- `SHR Vx,Vy`: the source is `V[y]` (rule R320). -/
def ch8Shr (x y : Nibble) (c : Chip8) : Chip8 := c.setRegFlag x (c.reg y >>> 1) ((c.reg y).getLsbD 0)

/-- `SHL Vx,Vy` (rule R322). -/
def ch8Shl (x y : Nibble) (c : Chip8) : Chip8 := c.setRegFlag x (c.reg y <<< 1) ((c.reg y).getLsbD 7)

/-- `RND Vx,nn`: one byte of the stream, under a mask (rule R326). -/
def ch8Rnd (x : Nibble) (nn : Byte) (c : Chip8) : Chip8 :=
  { c.setReg x (Config.ch8Rng c.rngDraws &&& nn) with rngDraws := c.rngDraws + 1 }

/-- One pixel of a sprite row: clipped at the right, flipped where the sprite bit is set; a set pixel that is flipped is a
collision (rule R327). -/
def drawColumn (x0 py : Nat) (b : Byte) (c : Chip8) (col : Nat) : Chip8 :=
  let px := x0 + col
  if px < 64 ∧ b.getLsbD (7 - col) then
    (if c.pixel px py then c.setReg 0xF 1 else c).flipPixel px py
  else c

/-- One row of a sprite, clipped at the bottom. -/
def drawRow (x0 y0 : Nat) (c : Chip8) (row : Nat) : Chip8 :=
  if y0 + row < 32 then
    (List.range 8).foldl (drawColumn x0 (y0 + row) (c.load (c.i + BitVec.ofNat 12 row))) c
  else c

/-- `DRW Vx,Vy,n` (rule R327): the coordinates are read before `VF` is written. -/
def ch8Drw (x y n : Nibble) (c : Chip8) : Chip8 :=
  let x0 := (c.reg x).toNat % 64
  let y0 := (c.reg y).toNat % 32
  (List.range n.toNat).foldl (drawRow x0 y0) (c.setReg 0xF 0)

/-- The key that `V[x]` names: its low nibble (rules R328, R329). -/
def keyOf (x : Nibble) (c : Chip8) : Bool := c.key ((c.reg x).setWidth 4)

/-- `LD Vx,K`: `pc` back on this instruction, and wait (rule R331). -/
def ch8WaitKey (x : Nibble) (c : Chip8) : Chip8 := { c with pc := c.pc - 2, waitingForKey := true, waitReg := x }

/-- The address of the glyph of a digit: the low nibble of `V[x]` (rule R335). -/
def glyphAddr (v : Byte) : Addr12 := 0x050 + 5 * (v.setWidth 4 : Nibble).setWidth 12

/-- `LD B,Vx`: the three decimal digits (rule R336). -/
def ch8Bcd (x : Nibble) (c : Chip8) : Chip8 :=
  let v := (c.reg x).toNat
  ((c.store c.i (BitVec.ofNat 8 (v / 100))).store (c.i + 1) (BitVec.ofNat 8 (v / 10 % 10))).store (c.i + 2)
    (BitVec.ofNat 8 (v % 10))

/-- Store `V[i]` at `I + i`. -/
def storeReg (c : Chip8) (i : Nat) : Chip8 := c.store (c.i + BitVec.ofNat 12 i) (c.reg (BitVec.ofNat 4 i))

/-- Load `V[i]` from `I + i`. -/
def loadReg (c : Chip8) (i : Nat) : Chip8 := c.setReg (BitVec.ofNat 4 i) (c.load (c.i + BitVec.ofNat 12 i))

/-- `I <- (I + x + 1) & 0x0FFF`. -/
def stepIndex (x : Nibble) (c : Chip8) : Chip8 := { c with i := c.i + x.setWidth 12 + 1 }

/-- `LD [I],Vx`: `V[0]` to `V[x]` (rule R337). -/
def ch8StoreRegs (x : Nibble) (c : Chip8) : Chip8 := stepIndex x ((List.range (x.toNat + 1)).foldl storeReg c)

/-- `LD Vx,[I]` (rule R338). -/
def ch8LoadRegs (x : Nibble) (c : Chip8) : Chip8 := stepIndex x ((List.range (x.toNat + 1)).foldl loadReg c)

/-! ## The meanings, one for each instruction -/

/-- `CLS`, word match 0x00E0, mask 0xFFFF (rule R305). -/
def execCh8_cls (s : State) : Result := ch8Next ch8Cls s

/-- `RET`, word match 0x00EE, mask 0xFFFF (rule R306). -/
def execCh8_ret (s : State) : Result := ch8Next ch8Ret s

/-- `SYS nnn`, word match 0x0000, mask 0xF000 (rule R304). -/
def execCh8_sys_nnn (_nnn : Addr12) (s : State) : Result := ch8Next id s

/-- `JP nnn`, word match 0x1000, mask 0xF000 (rule R307). -/
def execCh8_jp_nnn (nnn : Addr12) (s : State) : Result := ch8Next (ch8Jp nnn) s

/-- `CALL nnn`, word match 0x2000, mask 0xF000 (rule R308). -/
def execCh8_call_nnn (nnn : Addr12) (s : State) : Result := ch8Next (ch8Call nnn) s

/-- `SE Vx,nn`, word match 0x3000, mask 0xF000 (rule R309). -/
def execCh8_se_Vx_nn (x : Nibble) (nn : Byte) (s : State) : Result := ch8Next (fun c => c.skipIf (c.reg x == nn)) s

/-- `SNE Vx,nn`, word match 0x4000, mask 0xF000 (rule R310). -/
def execCh8_sne_Vx_nn (x : Nibble) (nn : Byte) (s : State) : Result := ch8Next (fun c => c.skipIf (c.reg x != nn)) s

/-- `SE Vx,Vy`, word match 0x5000, mask 0xF00F (rule R311). -/
def execCh8_se_Vx_Vy (x y : Nibble) (s : State) : Result := ch8Next (fun c => c.skipIf (c.reg x == c.reg y)) s

/-- `LD Vx,nn`, word match 0x6000, mask 0xF000 (rule R312). -/
def execCh8_ld_Vx_nn (x : Nibble) (nn : Byte) (s : State) : Result := ch8Next (fun c => c.setReg x nn) s

/-- `ADD Vx,nn`, word match 0x7000, mask 0xF000 (rule R313). -/
def execCh8_add_Vx_nn (x : Nibble) (nn : Byte) (s : State) : Result := ch8Next (fun c => c.setReg x (c.reg x + nn)) s

/-- `LD Vx,Vy`, word match 0x8000, mask 0xF00F (rule R314). -/
def execCh8_ld_Vx_Vy (x y : Nibble) (s : State) : Result := ch8Next (fun c => c.setReg x (c.reg y)) s

/-- `OR Vx,Vy`, word match 0x8001, mask 0xF00F (rule R315). -/
def execCh8_or_Vx_Vy (x y : Nibble) (s : State) : Result := ch8Next (fun c => c.setReg x (c.reg x ||| c.reg y)) s

/-- `AND Vx,Vy`, word match 0x8002, mask 0xF00F (rule R316). -/
def execCh8_and_Vx_Vy (x y : Nibble) (s : State) : Result := ch8Next (fun c => c.setReg x (c.reg x &&& c.reg y)) s

/-- `XOR Vx,Vy`, word match 0x8003, mask 0xF00F (rule R317). -/
def execCh8_xor_Vx_Vy (x y : Nibble) (s : State) : Result := ch8Next (fun c => c.setReg x (c.reg x ^^^ c.reg y)) s

/-- `ADD Vx,Vy`, word match 0x8004, mask 0xF00F (rule R318). -/
def execCh8_add_Vx_Vy (x y : Nibble) (s : State) : Result := ch8Next (ch8Add x y) s

/-- `SUB Vx,Vy`, word match 0x8005, mask 0xF00F (rule R319). -/
def execCh8_sub_Vx_Vy (x y : Nibble) (s : State) : Result := ch8Next (ch8Sub x y) s

/-- `SHR Vx,Vy`, word match 0x8006, mask 0xF00F (rule R320). -/
def execCh8_shr_Vx_Vy (x y : Nibble) (s : State) : Result := ch8Next (ch8Shr x y) s

/-- `SUBN Vx,Vy`, word match 0x8007, mask 0xF00F (rule R321). -/
def execCh8_subn_Vx_Vy (x y : Nibble) (s : State) : Result := ch8Next (ch8Subn x y) s

/-- `SHL Vx,Vy`, word match 0x800E, mask 0xF00F (rule R322). -/
def execCh8_shl_Vx_Vy (x y : Nibble) (s : State) : Result := ch8Next (ch8Shl x y) s

/-- `SNE Vx,Vy`, word match 0x9000, mask 0xF00F (rule R323). -/
def execCh8_sne_Vx_Vy (x y : Nibble) (s : State) : Result := ch8Next (fun c => c.skipIf (c.reg x != c.reg y)) s

/-- `LD I,nnn`, word match 0xA000, mask 0xF000 (rule R324). -/
def execCh8_ld_I_nnn (nnn : Addr12) (s : State) : Result := ch8Next (fun c => { c with i := nnn }) s

/-- `JP V0,nnn`, word match 0xB000, mask 0xF000 (rule R325). -/
def execCh8_jp_V0_nnn (nnn : Addr12) (s : State) : Result := ch8Next (fun c => { c with pc := nnn + (c.reg 0).setWidth 12 }) s

/-- `RND Vx,nn`, word match 0xC000, mask 0xF000 (rule R326). -/
def execCh8_rnd_Vx_nn (x : Nibble) (nn : Byte) (s : State) : Result := ch8Next (ch8Rnd x nn) s

/-- `DRW Vx,Vy,n`, word match 0xD000, mask 0xF000 (rule R327). -/
def execCh8_drw_Vx_Vy_n (x y n : Nibble) (s : State) : Result := ch8Next (ch8Drw x y n) s

/-- `SKP Vx`, word match 0xE09E, mask 0xF0FF (rule R328). -/
def execCh8_skp_Vx (x : Nibble) (s : State) : Result := ch8Next (fun c => c.skipIf (keyOf x c)) s

/-- `SKNP Vx`, word match 0xE0A1, mask 0xF0FF (rule R329). -/
def execCh8_sknp_Vx (x : Nibble) (s : State) : Result := ch8Next (fun c => c.skipIf (!keyOf x c)) s

/-- `LD Vx,DT`, word match 0xF007, mask 0xF0FF (rule R330). -/
def execCh8_ld_Vx_DT (x : Nibble) (s : State) : Result := ch8Next (fun c => c.setReg x c.delay) s

/-- `LD Vx,K`, word match 0xF00A, mask 0xF0FF (rule R331). -/
def execCh8_ld_Vx_K (x : Nibble) (s : State) : Result := ch8Next (ch8WaitKey x) s

/-- `LD DT,Vx`, word match 0xF015, mask 0xF0FF (rule R332). -/
def execCh8_ld_DT_Vx (x : Nibble) (s : State) : Result := ch8Next (fun c => { c with delay := c.reg x }) s

/-- `LD ST,Vx`, word match 0xF018, mask 0xF0FF (rule R333). -/
def execCh8_ld_ST_Vx (x : Nibble) (s : State) : Result := ch8Next (fun c => { c with sound := c.reg x }) s

/-- `ADD I,Vx`, word match 0xF01E, mask 0xF0FF (rule R334). -/
def execCh8_add_I_Vx (x : Nibble) (s : State) : Result := ch8Next (fun c => { c with i := c.i + (c.reg x).setWidth 12 }) s

/-- `LD F,Vx`, word match 0xF029, mask 0xF0FF (rule R335). -/
def execCh8_ld_F_Vx (x : Nibble) (s : State) : Result := ch8Next (fun c => { c with i := glyphAddr (c.reg x) }) s

/-- `LD B,Vx`, word match 0xF033, mask 0xF0FF (rule R336). -/
def execCh8_ld_B_Vx (x : Nibble) (s : State) : Result := ch8Next (ch8Bcd x) s

/-- `LD [I],Vx`, word match 0xF055, mask 0xF0FF (rule R337). -/
def execCh8_ld_atI_Vx (x : Nibble) (s : State) : Result := ch8Next (ch8StoreRegs x) s

/-- `LD Vx,[I]`, word match 0xF065, mask 0xF0FF (rule R338). -/
def execCh8_ld_Vx_atI (x : Nibble) (s : State) : Result := ch8Next (ch8LoadRegs x) s

end Sys2Proof.Machine
end

