-- ==== Sys2Proof/Machine/Control.lean ====
section
/-! DEFINITION. Jumps, calls, returns and restarts (spec/46_control.md). `PC` stands past the whole instruction. -/

namespace Sys2Proof.Machine

/-- `JP nn` (rule R260). -/
def jump (nn : Word) (g : GameBoy) : GameBoy := ({ g with pc := nn } : GameBoy).spend 16

/-- `JP cc,nn` (rule R261). -/
def jumpIf (cc : Cond) (nn : Word) (g : GameBoy) : GameBoy :=
  if g.cond cc then ({ g with pc := nn } : GameBoy).spend 16 else g.spend 12

/-- `JP HL` (rule R262). -/
def jumpHl (g : GameBoy) : GameBoy := ({ g with pc := g.hl } : GameBoy).spend 4

/-- `JR e` (rule R263). -/
def jumpRel (e : Byte) (g : GameBoy) : GameBoy := ({ g with pc := g.relative e } : GameBoy).spend 12

/-- `JR cc,e` (rule R264). -/
def jumpRelIf (cc : Cond) (e : Byte) (g : GameBoy) : GameBoy :=
  if g.cond cc then ({ g with pc := g.relative e } : GameBoy).spend 12 else g.spend 8

/-- Push `PC` and go to an address (rules R265, R270). -/
def callTo (target : Word) (g : GameBoy) : GameBoy := { g.push16 g.pc with pc := target }

/-- `CALL nn` (rule R265). -/
def call (nn : Word) (g : GameBoy) : GameBoy := (callTo nn g).spend 24

/-- `CALL cc,nn` (rule R266). -/
def callIf (cc : Cond) (nn : Word) (g : GameBoy) : GameBoy :=
  if g.cond cc then (callTo nn g).spend 24 else g.spend 12

/-- `RET` (rule R267). -/
def returnAlways (g : GameBoy) : GameBoy := g.returnPc.spend 16

/-- `RET cc` (rule R268). -/
def returnIf (cc : Cond) (g : GameBoy) : GameBoy :=
  if g.cond cc then g.returnPc.spend 20 else g.spend 8

/-- `RETI` (rule R269). -/
def returnInterrupt (g : GameBoy) : GameBoy := g.returnFromInterrupt.spend 16

/-- `RST t`, `t = ttt * 8` (rule R270). -/
def restart (ttt : Fin 8) (g : GameBoy) : GameBoy := (callTo (BitVec.ofNat 16 (ttt.val * 8)) g).spend 16

/-! ## The meanings, one for each instruction -/

/-- `JR e`, opcode 18 (rule R263). -/
def execJr_e (e : Byte) (s : State) : Result := gbNext (jumpRel e) s

/-- `JR NZ,e`, opcode 20 (rule R264). -/
def execJr_NZ_e (e : Byte) (s : State) : Result := gbNext (jumpRelIf .nz e) s

/-- `JR Z,e`, opcode 28 (rule R264). -/
def execJr_Z_e (e : Byte) (s : State) : Result := gbNext (jumpRelIf .z e) s

/-- `JR NC,e`, opcode 30 (rule R264). -/
def execJr_NC_e (e : Byte) (s : State) : Result := gbNext (jumpRelIf .nc e) s

/-- `JR C,e`, opcode 38 (rule R264). -/
def execJr_C_e (e : Byte) (s : State) : Result := gbNext (jumpRelIf .c e) s

/-- `RET NZ`, opcode C0 (rule R268). -/
def execRet_NZ (s : State) : Result := gbNext (returnIf .nz) s

/-- `JP NZ,nn`, opcode C2 (rule R261). -/
def execJp_NZ_nn (nn : Word) (s : State) : Result := gbNext (jumpIf .nz nn) s

/-- `JP nn`, opcode C3 (rule R260). -/
def execJp_nn (nn : Word) (s : State) : Result := gbNext (jump nn) s

/-- `CALL NZ,nn`, opcode C4 (rule R266). -/
def execCall_NZ_nn (nn : Word) (s : State) : Result := gbNext (callIf .nz nn) s

/-- `RST 0x00`, opcode C7 (rule R270). -/
def execRst_00 (s : State) : Result := gbNext (restart 0) s

/-- `RET Z`, opcode C8 (rule R268). -/
def execRet_Z (s : State) : Result := gbNext (returnIf .z) s

/-- `RET`, opcode C9 (rule R267). -/
def execRet (s : State) : Result := gbNext returnAlways s

/-- `JP Z,nn`, opcode CA (rule R261). -/
def execJp_Z_nn (nn : Word) (s : State) : Result := gbNext (jumpIf .z nn) s

/-- `CALL Z,nn`, opcode CC (rule R266). -/
def execCall_Z_nn (nn : Word) (s : State) : Result := gbNext (callIf .z nn) s

/-- `CALL nn`, opcode CD (rule R265). -/
def execCall_nn (nn : Word) (s : State) : Result := gbNext (call nn) s

/-- `RST 0x08`, opcode CF (rule R270). -/
def execRst_08 (s : State) : Result := gbNext (restart 1) s

/-- `RET NC`, opcode D0 (rule R268). -/
def execRet_NC (s : State) : Result := gbNext (returnIf .nc) s

/-- `JP NC,nn`, opcode D2 (rule R261). -/
def execJp_NC_nn (nn : Word) (s : State) : Result := gbNext (jumpIf .nc nn) s

/-- `CALL NC,nn`, opcode D4 (rule R266). -/
def execCall_NC_nn (nn : Word) (s : State) : Result := gbNext (callIf .nc nn) s

/-- `RST 0x10`, opcode D7 (rule R270). -/
def execRst_10 (s : State) : Result := gbNext (restart 2) s

/-- `RET C`, opcode D8 (rule R268). -/
def execRet_C (s : State) : Result := gbNext (returnIf .c) s

/-- `RETI`, opcode D9 (rule R269). -/
def execReti (s : State) : Result := gbNext returnInterrupt s

/-- `JP C,nn`, opcode DA (rule R261). -/
def execJp_C_nn (nn : Word) (s : State) : Result := gbNext (jumpIf .c nn) s

/-- `CALL C,nn`, opcode DC (rule R266). -/
def execCall_C_nn (nn : Word) (s : State) : Result := gbNext (callIf .c nn) s

/-- `RST 0x18`, opcode DF (rule R270). -/
def execRst_18 (s : State) : Result := gbNext (restart 3) s

/-- `RST 0x20`, opcode E7 (rule R270). -/
def execRst_20 (s : State) : Result := gbNext (restart 4) s

/-- `JP HL`, opcode E9 (rule R262). -/
def execJp_HL (s : State) : Result := gbNext jumpHl s

/-- `RST 0x28`, opcode EF (rule R270). -/
def execRst_28 (s : State) : Result := gbNext (restart 5) s

/-- `RST 0x30`, opcode F7 (rule R270). -/
def execRst_30 (s : State) : Result := gbNext (restart 6) s

/-- `RST 0x38`, opcode FF (rule R270). -/
def execRst_38 (s : State) : Result := gbNext (restart 7) s

end Sys2Proof.Machine
end

