-- ==== Sys2Proof/Machine/Load16.lean ====
section
/-! DEFINITION. The 16-bit loads and the stack instructions (spec/41_load16_stack.md). -/

namespace Sys2Proof.Machine

/-- `LD rr,nn` (rule R160). -/
def ldRRnn (p : R16) (nn : Word) (g : GameBoy) : GameBoy := (g.setR16 p nn).spend 12

/-- `LD (nn),SP`: the low byte first (rule R161). -/
def ldNnSp (nn : Word) (g : GameBoy) : GameBoy := (g.memWrite16 nn g.sp).spend 20

/-- `LD SP,HL` (rule R162). -/
def ldSpHl (g : GameBoy) : GameBoy := ({ g with sp := g.hl } : GameBoy).spend 8

/-- `LD HL,SP+e` (rule R163). -/
def ldHlSpE (e : Byte) (g : GameBoy) : GameBoy :=
  ({ g.setHl (g.spPlus e) with f := spOffsetFlags g.sp e } : GameBoy).spend 12

/-- `PUSH` (rule R164). -/
def pushPair (p : R16Stk) (g : GameBoy) : GameBoy := (g.push16 (g.r16stk p)).spend 16

/-- `POP` (rule R165). -/
def popPair (p : R16Stk) (g : GameBoy) : GameBoy := (g.popped.setR16stk p g.popValue).spend 12

/-! ## The meanings, one for each instruction -/

/-- `LD BC,nn`, opcode 01 (rule R160). -/
def execLd_BC_nn (nn : Word) (s : State) : Result := gbNext (ldRRnn .bc nn) s

/-- `LD (nn),SP`, opcode 08 (rule R161). -/
def execLd_at_nn_SP (nn : Word) (s : State) : Result := gbNext (ldNnSp nn) s

/-- `LD DE,nn`, opcode 11 (rule R160). -/
def execLd_DE_nn (nn : Word) (s : State) : Result := gbNext (ldRRnn .de nn) s

/-- `LD HL,nn`, opcode 21 (rule R160). -/
def execLd_HL_nn (nn : Word) (s : State) : Result := gbNext (ldRRnn .hl nn) s

/-- `LD SP,nn`, opcode 31 (rule R160). -/
def execLd_SP_nn (nn : Word) (s : State) : Result := gbNext (ldRRnn .sp nn) s

/-- `POP BC`, opcode C1 (rule R165). -/
def execPop_BC (s : State) : Result := gbNext (popPair .bc) s

/-- `PUSH BC`, opcode C5 (rule R164). -/
def execPush_BC (s : State) : Result := gbNext (pushPair .bc) s

/-- `POP DE`, opcode D1 (rule R165). -/
def execPop_DE (s : State) : Result := gbNext (popPair .de) s

/-- `PUSH DE`, opcode D5 (rule R164). -/
def execPush_DE (s : State) : Result := gbNext (pushPair .de) s

/-- `POP HL`, opcode E1 (rule R165). -/
def execPop_HL (s : State) : Result := gbNext (popPair .hl) s

/-- `PUSH HL`, opcode E5 (rule R164). -/
def execPush_HL (s : State) : Result := gbNext (pushPair .hl) s

/-- `POP AF`, opcode F1 (rule R165). -/
def execPop_AF (s : State) : Result := gbNext (popPair .af) s

/-- `PUSH AF`, opcode F5 (rule R164). -/
def execPush_AF (s : State) : Result := gbNext (pushPair .af) s

/-- `LD HL,SP+e`, opcode F8 (rule R163). -/
def execLd_HL_SPe (e : Byte) (s : State) : Result := gbNext (ldHlSpE e) s

/-- `LD SP,HL`, opcode F9 (rule R162). -/
def execLd_SP_HL (s : State) : Result := gbNext ldSpHl s

end Sys2Proof.Machine
end

