-- ==== Sys2Proof/Machine/Load8.lean ====
section
/-! DEFINITION. The 8-bit loads (spec/40_load8.md): the shared operations, then one meaning for each instruction. A meaning
starts at the point after the whole instruction has been fetched (log entry 19). -/

namespace Sys2Proof.Machine

/-- `LD r,r'` (rule R130). -/
def ldRR (dst src : R8) (g : GameBoy) : GameBoy := (g.setR8 dst (g.r8 src)).spend 4

/-- `LD r,n` (rule R131). -/
def ldRN (dst : R8) (n : Byte) (g : GameBoy) : GameBoy := (g.setR8 dst n).spend 8

/-- `LD r,(HL)` (rule R132). -/
def ldRHL (dst : R8) (g : GameBoy) : GameBoy := (g.setR8 dst (g.load g.hl)).spend 8

/-- `LD (HL),r` (rule R133). -/
def ldHLR (src : R8) (g : GameBoy) : GameBoy := (g.memWrite g.hl (g.r8 src)).spend 8

/-- `LD (HL),n` (rule R134). -/
def ldHLN (n : Byte) (g : GameBoy) : GameBoy := (g.memWrite g.hl n).spend 12

/-- `A <- MemRead(addr, 1)` (rules R135, R136, R139, R141, R143). -/
def loadA (addr : Word) (cost : Nat) (g : GameBoy) : GameBoy := ({ g with a := g.load addr } : GameBoy).spend cost

/-- `MemWrite(addr, 1, A)` (rules R137, R138, R140, R142, R144). -/
def storeA (addr : Word) (cost : Nat) (g : GameBoy) : GameBoy := (g.memWrite addr g.a).spend cost

/-- `LD (HL+),A` and `LD (HL-),A`: store, then step `HL` (rules R145, R146). -/
def storeAStep (delta : Word) (g : GameBoy) : GameBoy := ((g.memWrite g.hl g.a).setHl (g.hl + delta)).spend 8

/-- `LD A,(HL+)` and `LD A,(HL-)`: load, then step `HL` (rules R147, R148). -/
def loadAStep (delta : Word) (g : GameBoy) : GameBoy :=
  (({ g with a := g.load g.hl } : GameBoy).setHl (g.hl + delta)).spend 8

/-! ## The meanings, one for each instruction -/

/-- `LD (BC),A`, opcode 02 (rule R137). -/
def execLd_atBC_A (s : State) : Result := gbNext (fun g => storeA g.bc 8 g) s

/-- `LD B,n`, opcode 06 (rule R131). -/
def execLd_B_n (n : Byte) (s : State) : Result := gbNext (ldRN .b n) s

/-- `LD A,(BC)`, opcode 0A (rule R135). -/
def execLd_A_atBC (s : State) : Result := gbNext (fun g => loadA g.bc 8 g) s

/-- `LD C,n`, opcode 0E (rule R131). -/
def execLd_C_n (n : Byte) (s : State) : Result := gbNext (ldRN .c n) s

/-- `LD (DE),A`, opcode 12 (rule R138). -/
def execLd_atDE_A (s : State) : Result := gbNext (fun g => storeA g.de 8 g) s

/-- `LD D,n`, opcode 16 (rule R131). -/
def execLd_D_n (n : Byte) (s : State) : Result := gbNext (ldRN .d n) s

/-- `LD A,(DE)`, opcode 1A (rule R136). -/
def execLd_A_atDE (s : State) : Result := gbNext (fun g => loadA g.de 8 g) s

/-- `LD E,n`, opcode 1E (rule R131). -/
def execLd_E_n (n : Byte) (s : State) : Result := gbNext (ldRN .e n) s

/-- `LD (HL+),A`, opcode 22 (rule R145). -/
def execLd_atHLinc_A (s : State) : Result := gbNext (storeAStep 1) s

/-- `LD H,n`, opcode 26 (rule R131). -/
def execLd_H_n (n : Byte) (s : State) : Result := gbNext (ldRN .h n) s

/-- `LD A,(HL+)`, opcode 2A (rule R147). -/
def execLd_A_atHLinc (s : State) : Result := gbNext (loadAStep 1) s

/-- `LD L,n`, opcode 2E (rule R131). -/
def execLd_L_n (n : Byte) (s : State) : Result := gbNext (ldRN .l n) s

/-- `LD (HL-),A`, opcode 32 (rule R146). -/
def execLd_atHLdec_A (s : State) : Result := gbNext (storeAStep (-1)) s

/-- `LD (HL),n`, opcode 36 (rule R134). -/
def execLd_atHL_n (n : Byte) (s : State) : Result := gbNext (ldHLN n) s

/-- `LD A,(HL-)`, opcode 3A (rule R148). -/
def execLd_A_atHLdec (s : State) : Result := gbNext (loadAStep (-1)) s

/-- `LD A,n`, opcode 3E (rule R131). -/
def execLd_A_n (n : Byte) (s : State) : Result := gbNext (ldRN .a n) s

/-- `LD B,B`, opcode 40 (rule R130). -/
def execLd_B_B (s : State) : Result := gbNext (ldRR .b .b) s

/-- `LD B,C`, opcode 41 (rule R130). -/
def execLd_B_C (s : State) : Result := gbNext (ldRR .b .c) s

/-- `LD B,D`, opcode 42 (rule R130). -/
def execLd_B_D (s : State) : Result := gbNext (ldRR .b .d) s

/-- `LD B,E`, opcode 43 (rule R130). -/
def execLd_B_E (s : State) : Result := gbNext (ldRR .b .e) s

/-- `LD B,H`, opcode 44 (rule R130). -/
def execLd_B_H (s : State) : Result := gbNext (ldRR .b .h) s

/-- `LD B,L`, opcode 45 (rule R130). -/
def execLd_B_L (s : State) : Result := gbNext (ldRR .b .l) s

/-- `LD B,(HL)`, opcode 46 (rule R132). -/
def execLd_B_atHL (s : State) : Result := gbNext (ldRHL .b) s

/-- `LD B,A`, opcode 47 (rule R130). -/
def execLd_B_A (s : State) : Result := gbNext (ldRR .b .a) s

/-- `LD C,B`, opcode 48 (rule R130). -/
def execLd_C_B (s : State) : Result := gbNext (ldRR .c .b) s

/-- `LD C,C`, opcode 49 (rule R130). -/
def execLd_C_C (s : State) : Result := gbNext (ldRR .c .c) s

/-- `LD C,D`, opcode 4A (rule R130). -/
def execLd_C_D (s : State) : Result := gbNext (ldRR .c .d) s

/-- `LD C,E`, opcode 4B (rule R130). -/
def execLd_C_E (s : State) : Result := gbNext (ldRR .c .e) s

/-- `LD C,H`, opcode 4C (rule R130). -/
def execLd_C_H (s : State) : Result := gbNext (ldRR .c .h) s

/-- `LD C,L`, opcode 4D (rule R130). -/
def execLd_C_L (s : State) : Result := gbNext (ldRR .c .l) s

/-- `LD C,(HL)`, opcode 4E (rule R132). -/
def execLd_C_atHL (s : State) : Result := gbNext (ldRHL .c) s

/-- `LD C,A`, opcode 4F (rule R130). -/
def execLd_C_A (s : State) : Result := gbNext (ldRR .c .a) s

/-- `LD D,B`, opcode 50 (rule R130). -/
def execLd_D_B (s : State) : Result := gbNext (ldRR .d .b) s

/-- `LD D,C`, opcode 51 (rule R130). -/
def execLd_D_C (s : State) : Result := gbNext (ldRR .d .c) s

/-- `LD D,D`, opcode 52 (rule R130). -/
def execLd_D_D (s : State) : Result := gbNext (ldRR .d .d) s

/-- `LD D,E`, opcode 53 (rule R130). -/
def execLd_D_E (s : State) : Result := gbNext (ldRR .d .e) s

/-- `LD D,H`, opcode 54 (rule R130). -/
def execLd_D_H (s : State) : Result := gbNext (ldRR .d .h) s

/-- `LD D,L`, opcode 55 (rule R130). -/
def execLd_D_L (s : State) : Result := gbNext (ldRR .d .l) s

/-- `LD D,(HL)`, opcode 56 (rule R132). -/
def execLd_D_atHL (s : State) : Result := gbNext (ldRHL .d) s

/-- `LD D,A`, opcode 57 (rule R130). -/
def execLd_D_A (s : State) : Result := gbNext (ldRR .d .a) s

/-- `LD E,B`, opcode 58 (rule R130). -/
def execLd_E_B (s : State) : Result := gbNext (ldRR .e .b) s

/-- `LD E,C`, opcode 59 (rule R130). -/
def execLd_E_C (s : State) : Result := gbNext (ldRR .e .c) s

/-- `LD E,D`, opcode 5A (rule R130). -/
def execLd_E_D (s : State) : Result := gbNext (ldRR .e .d) s

/-- `LD E,E`, opcode 5B (rule R130). -/
def execLd_E_E (s : State) : Result := gbNext (ldRR .e .e) s

/-- `LD E,H`, opcode 5C (rule R130). -/
def execLd_E_H (s : State) : Result := gbNext (ldRR .e .h) s

/-- `LD E,L`, opcode 5D (rule R130). -/
def execLd_E_L (s : State) : Result := gbNext (ldRR .e .l) s

/-- `LD E,(HL)`, opcode 5E (rule R132). -/
def execLd_E_atHL (s : State) : Result := gbNext (ldRHL .e) s

/-- `LD E,A`, opcode 5F (rule R130). -/
def execLd_E_A (s : State) : Result := gbNext (ldRR .e .a) s

/-- `LD H,B`, opcode 60 (rule R130). -/
def execLd_H_B (s : State) : Result := gbNext (ldRR .h .b) s

/-- `LD H,C`, opcode 61 (rule R130). -/
def execLd_H_C (s : State) : Result := gbNext (ldRR .h .c) s

/-- `LD H,D`, opcode 62 (rule R130). -/
def execLd_H_D (s : State) : Result := gbNext (ldRR .h .d) s

/-- `LD H,E`, opcode 63 (rule R130). -/
def execLd_H_E (s : State) : Result := gbNext (ldRR .h .e) s

/-- `LD H,H`, opcode 64 (rule R130). -/
def execLd_H_H (s : State) : Result := gbNext (ldRR .h .h) s

/-- `LD H,L`, opcode 65 (rule R130). -/
def execLd_H_L (s : State) : Result := gbNext (ldRR .h .l) s

/-- `LD H,(HL)`, opcode 66 (rule R132). -/
def execLd_H_atHL (s : State) : Result := gbNext (ldRHL .h) s

/-- `LD H,A`, opcode 67 (rule R130). -/
def execLd_H_A (s : State) : Result := gbNext (ldRR .h .a) s

/-- `LD L,B`, opcode 68 (rule R130). -/
def execLd_L_B (s : State) : Result := gbNext (ldRR .l .b) s

/-- `LD L,C`, opcode 69 (rule R130). -/
def execLd_L_C (s : State) : Result := gbNext (ldRR .l .c) s

/-- `LD L,D`, opcode 6A (rule R130). -/
def execLd_L_D (s : State) : Result := gbNext (ldRR .l .d) s

/-- `LD L,E`, opcode 6B (rule R130). -/
def execLd_L_E (s : State) : Result := gbNext (ldRR .l .e) s

/-- `LD L,H`, opcode 6C (rule R130). -/
def execLd_L_H (s : State) : Result := gbNext (ldRR .l .h) s

/-- `LD L,L`, opcode 6D (rule R130). -/
def execLd_L_L (s : State) : Result := gbNext (ldRR .l .l) s

/-- `LD L,(HL)`, opcode 6E (rule R132). -/
def execLd_L_atHL (s : State) : Result := gbNext (ldRHL .l) s

/-- `LD L,A`, opcode 6F (rule R130). -/
def execLd_L_A (s : State) : Result := gbNext (ldRR .l .a) s

/-- `LD (HL),B`, opcode 70 (rule R133). -/
def execLd_atHL_B (s : State) : Result := gbNext (ldHLR .b) s

/-- `LD (HL),C`, opcode 71 (rule R133). -/
def execLd_atHL_C (s : State) : Result := gbNext (ldHLR .c) s

/-- `LD (HL),D`, opcode 72 (rule R133). -/
def execLd_atHL_D (s : State) : Result := gbNext (ldHLR .d) s

/-- `LD (HL),E`, opcode 73 (rule R133). -/
def execLd_atHL_E (s : State) : Result := gbNext (ldHLR .e) s

/-- `LD (HL),H`, opcode 74 (rule R133). -/
def execLd_atHL_H (s : State) : Result := gbNext (ldHLR .h) s

/-- `LD (HL),L`, opcode 75 (rule R133). -/
def execLd_atHL_L (s : State) : Result := gbNext (ldHLR .l) s

/-- `LD (HL),A`, opcode 77 (rule R133). -/
def execLd_atHL_A (s : State) : Result := gbNext (ldHLR .a) s

/-- `LD A,B`, opcode 78 (rule R130). -/
def execLd_A_B (s : State) : Result := gbNext (ldRR .a .b) s

/-- `LD A,C`, opcode 79 (rule R130). -/
def execLd_A_C (s : State) : Result := gbNext (ldRR .a .c) s

/-- `LD A,D`, opcode 7A (rule R130). -/
def execLd_A_D (s : State) : Result := gbNext (ldRR .a .d) s

/-- `LD A,E`, opcode 7B (rule R130). -/
def execLd_A_E (s : State) : Result := gbNext (ldRR .a .e) s

/-- `LD A,H`, opcode 7C (rule R130). -/
def execLd_A_H (s : State) : Result := gbNext (ldRR .a .h) s

/-- `LD A,L`, opcode 7D (rule R130). -/
def execLd_A_L (s : State) : Result := gbNext (ldRR .a .l) s

/-- `LD A,(HL)`, opcode 7E (rule R132). -/
def execLd_A_atHL (s : State) : Result := gbNext (ldRHL .a) s

/-- `LD A,A`, opcode 7F (rule R130). -/
def execLd_A_A (s : State) : Result := gbNext (ldRR .a .a) s

/-- `LDH (n),A`, opcode E0 (rule R142). -/
def execLdh_at_n_A (n : Byte) (s : State) : Result := gbNext (storeA (highPage n) 12) s

/-- `LD (C),A`, opcode E2 (rule R144). -/
def execLd_atC_A (s : State) : Result := gbNext (fun g => storeA (highPage g.c) 8 g) s

/-- `LD (nn),A`, opcode EA (rule R140). -/
def execLd_at_nn_A (nn : Word) (s : State) : Result := gbNext (storeA nn 16) s

/-- `LDH A,(n)`, opcode F0 (rule R141). -/
def execLdh_A_at_n (n : Byte) (s : State) : Result := gbNext (loadA (highPage n) 12) s

/-- `LD A,(C)`, opcode F2 (rule R143). -/
def execLd_A_atC (s : State) : Result := gbNext (fun g => loadA (highPage g.c) 8 g) s

/-- `LD A,(nn)`, opcode FA (rule R139). -/
def execLd_A_at_nn (nn : Word) (s : State) : Result := gbNext (loadA nn 16) s

end Sys2Proof.Machine
end

