-- ==== Sys2Proof/Machine/Rotate.lean ====
section
/-! DEFINITION. The rotates and shifts (spec/44_rotate_shift.md). -/

namespace Sys2Proof.Machine

/-- A one-byte rotate of `A` (rules R230 to R233). -/
def rotateA (op : ShiftOp) (g : GameBoy) : GameBoy :=
  ({ g with a := (shiftResult op g.a g.f.c).1, f := rotateAFlags (shiftResult op g.a g.f.c) } : GameBoy).spend 4

/-- A CB-page rotate or shift: read, then write even when nothing changes (rules R234 to R242). -/
def shiftOperand (op : ShiftOp) (x : Operand) (g : GameBoy) : GameBoy :=
  ({ g.put x (shiftResult op (g.get x) g.f.c).1 with f := shiftFlags (shiftResult op (g.get x) g.f.c) } : GameBoy).spend
    (operandCost x 8 16)

/-! ## The meanings, one for each instruction -/

/-- `RLCA`, opcode 07 (rule R230). -/
def execRlca (s : State) : Result := gbNext (rotateA .rlc) s

/-- `RRCA`, opcode 0F (rule R231). -/
def execRrca (s : State) : Result := gbNext (rotateA .rrc) s

/-- `RLA`, opcode 17 (rule R232). -/
def execRla (s : State) : Result := gbNext (rotateA .rl) s

/-- `RRA`, opcode 1F (rule R233). -/
def execRra (s : State) : Result := gbNext (rotateA .rr) s

/-- `RLC B`, opcode CB 00 (rule R235). -/
def execRlc_B (s : State) : Result := gbNext (shiftOperand .rlc (.reg .b)) s

/-- `RLC C`, opcode CB 01 (rule R235). -/
def execRlc_C (s : State) : Result := gbNext (shiftOperand .rlc (.reg .c)) s

/-- `RLC D`, opcode CB 02 (rule R235). -/
def execRlc_D (s : State) : Result := gbNext (shiftOperand .rlc (.reg .d)) s

/-- `RLC E`, opcode CB 03 (rule R235). -/
def execRlc_E (s : State) : Result := gbNext (shiftOperand .rlc (.reg .e)) s

/-- `RLC H`, opcode CB 04 (rule R235). -/
def execRlc_H (s : State) : Result := gbNext (shiftOperand .rlc (.reg .h)) s

/-- `RLC L`, opcode CB 05 (rule R235). -/
def execRlc_L (s : State) : Result := gbNext (shiftOperand .rlc (.reg .l)) s

/-- `RLC (HL)`, opcode CB 06 (rule R235). -/
def execRlc_atHL (s : State) : Result := gbNext (shiftOperand .rlc .atHL) s

/-- `RLC A`, opcode CB 07 (rule R235). -/
def execRlc_A (s : State) : Result := gbNext (shiftOperand .rlc (.reg .a)) s

/-- `RRC B`, opcode CB 08 (rule R236). -/
def execRrc_B (s : State) : Result := gbNext (shiftOperand .rrc (.reg .b)) s

/-- `RRC C`, opcode CB 09 (rule R236). -/
def execRrc_C (s : State) : Result := gbNext (shiftOperand .rrc (.reg .c)) s

/-- `RRC D`, opcode CB 0A (rule R236). -/
def execRrc_D (s : State) : Result := gbNext (shiftOperand .rrc (.reg .d)) s

/-- `RRC E`, opcode CB 0B (rule R236). -/
def execRrc_E (s : State) : Result := gbNext (shiftOperand .rrc (.reg .e)) s

/-- `RRC H`, opcode CB 0C (rule R236). -/
def execRrc_H (s : State) : Result := gbNext (shiftOperand .rrc (.reg .h)) s

/-- `RRC L`, opcode CB 0D (rule R236). -/
def execRrc_L (s : State) : Result := gbNext (shiftOperand .rrc (.reg .l)) s

/-- `RRC (HL)`, opcode CB 0E (rule R236). -/
def execRrc_atHL (s : State) : Result := gbNext (shiftOperand .rrc .atHL) s

/-- `RRC A`, opcode CB 0F (rule R236). -/
def execRrc_A (s : State) : Result := gbNext (shiftOperand .rrc (.reg .a)) s

/-- `RL B`, opcode CB 10 (rule R237). -/
def execRl_B (s : State) : Result := gbNext (shiftOperand .rl (.reg .b)) s

/-- `RL C`, opcode CB 11 (rule R237). -/
def execRl_C (s : State) : Result := gbNext (shiftOperand .rl (.reg .c)) s

/-- `RL D`, opcode CB 12 (rule R237). -/
def execRl_D (s : State) : Result := gbNext (shiftOperand .rl (.reg .d)) s

/-- `RL E`, opcode CB 13 (rule R237). -/
def execRl_E (s : State) : Result := gbNext (shiftOperand .rl (.reg .e)) s

/-- `RL H`, opcode CB 14 (rule R237). -/
def execRl_H (s : State) : Result := gbNext (shiftOperand .rl (.reg .h)) s

/-- `RL L`, opcode CB 15 (rule R237). -/
def execRl_L (s : State) : Result := gbNext (shiftOperand .rl (.reg .l)) s

/-- `RL (HL)`, opcode CB 16 (rule R237). -/
def execRl_atHL (s : State) : Result := gbNext (shiftOperand .rl .atHL) s

/-- `RL A`, opcode CB 17 (rule R237). -/
def execRl_A (s : State) : Result := gbNext (shiftOperand .rl (.reg .a)) s

/-- `RR B`, opcode CB 18 (rule R238). -/
def execRr_B (s : State) : Result := gbNext (shiftOperand .rr (.reg .b)) s

/-- `RR C`, opcode CB 19 (rule R238). -/
def execRr_C (s : State) : Result := gbNext (shiftOperand .rr (.reg .c)) s

/-- `RR D`, opcode CB 1A (rule R238). -/
def execRr_D (s : State) : Result := gbNext (shiftOperand .rr (.reg .d)) s

/-- `RR E`, opcode CB 1B (rule R238). -/
def execRr_E (s : State) : Result := gbNext (shiftOperand .rr (.reg .e)) s

/-- `RR H`, opcode CB 1C (rule R238). -/
def execRr_H (s : State) : Result := gbNext (shiftOperand .rr (.reg .h)) s

/-- `RR L`, opcode CB 1D (rule R238). -/
def execRr_L (s : State) : Result := gbNext (shiftOperand .rr (.reg .l)) s

/-- `RR (HL)`, opcode CB 1E (rule R238). -/
def execRr_atHL (s : State) : Result := gbNext (shiftOperand .rr .atHL) s

/-- `RR A`, opcode CB 1F (rule R238). -/
def execRr_A (s : State) : Result := gbNext (shiftOperand .rr (.reg .a)) s

/-- `SLA B`, opcode CB 20 (rule R239). -/
def execSla_B (s : State) : Result := gbNext (shiftOperand .sla (.reg .b)) s

/-- `SLA C`, opcode CB 21 (rule R239). -/
def execSla_C (s : State) : Result := gbNext (shiftOperand .sla (.reg .c)) s

/-- `SLA D`, opcode CB 22 (rule R239). -/
def execSla_D (s : State) : Result := gbNext (shiftOperand .sla (.reg .d)) s

/-- `SLA E`, opcode CB 23 (rule R239). -/
def execSla_E (s : State) : Result := gbNext (shiftOperand .sla (.reg .e)) s

/-- `SLA H`, opcode CB 24 (rule R239). -/
def execSla_H (s : State) : Result := gbNext (shiftOperand .sla (.reg .h)) s

/-- `SLA L`, opcode CB 25 (rule R239). -/
def execSla_L (s : State) : Result := gbNext (shiftOperand .sla (.reg .l)) s

/-- `SLA (HL)`, opcode CB 26 (rule R239). -/
def execSla_atHL (s : State) : Result := gbNext (shiftOperand .sla .atHL) s

/-- `SLA A`, opcode CB 27 (rule R239). -/
def execSla_A (s : State) : Result := gbNext (shiftOperand .sla (.reg .a)) s

/-- `SRA B`, opcode CB 28 (rule R240). -/
def execSra_B (s : State) : Result := gbNext (shiftOperand .sra (.reg .b)) s

/-- `SRA C`, opcode CB 29 (rule R240). -/
def execSra_C (s : State) : Result := gbNext (shiftOperand .sra (.reg .c)) s

/-- `SRA D`, opcode CB 2A (rule R240). -/
def execSra_D (s : State) : Result := gbNext (shiftOperand .sra (.reg .d)) s

/-- `SRA E`, opcode CB 2B (rule R240). -/
def execSra_E (s : State) : Result := gbNext (shiftOperand .sra (.reg .e)) s

/-- `SRA H`, opcode CB 2C (rule R240). -/
def execSra_H (s : State) : Result := gbNext (shiftOperand .sra (.reg .h)) s

/-- `SRA L`, opcode CB 2D (rule R240). -/
def execSra_L (s : State) : Result := gbNext (shiftOperand .sra (.reg .l)) s

/-- `SRA (HL)`, opcode CB 2E (rule R240). -/
def execSra_atHL (s : State) : Result := gbNext (shiftOperand .sra .atHL) s

/-- `SRA A`, opcode CB 2F (rule R240). -/
def execSra_A (s : State) : Result := gbNext (shiftOperand .sra (.reg .a)) s

/-- `SWAP B`, opcode CB 30 (rule R241). -/
def execSwap_B (s : State) : Result := gbNext (shiftOperand .swap (.reg .b)) s

/-- `SWAP C`, opcode CB 31 (rule R241). -/
def execSwap_C (s : State) : Result := gbNext (shiftOperand .swap (.reg .c)) s

/-- `SWAP D`, opcode CB 32 (rule R241). -/
def execSwap_D (s : State) : Result := gbNext (shiftOperand .swap (.reg .d)) s

/-- `SWAP E`, opcode CB 33 (rule R241). -/
def execSwap_E (s : State) : Result := gbNext (shiftOperand .swap (.reg .e)) s

/-- `SWAP H`, opcode CB 34 (rule R241). -/
def execSwap_H (s : State) : Result := gbNext (shiftOperand .swap (.reg .h)) s

/-- `SWAP L`, opcode CB 35 (rule R241). -/
def execSwap_L (s : State) : Result := gbNext (shiftOperand .swap (.reg .l)) s

/-- `SWAP (HL)`, opcode CB 36 (rule R241). -/
def execSwap_atHL (s : State) : Result := gbNext (shiftOperand .swap .atHL) s

/-- `SWAP A`, opcode CB 37 (rule R241). -/
def execSwap_A (s : State) : Result := gbNext (shiftOperand .swap (.reg .a)) s

/-- `SRL B`, opcode CB 38 (rule R242). -/
def execSrl_B (s : State) : Result := gbNext (shiftOperand .srl (.reg .b)) s

/-- `SRL C`, opcode CB 39 (rule R242). -/
def execSrl_C (s : State) : Result := gbNext (shiftOperand .srl (.reg .c)) s

/-- `SRL D`, opcode CB 3A (rule R242). -/
def execSrl_D (s : State) : Result := gbNext (shiftOperand .srl (.reg .d)) s

/-- `SRL E`, opcode CB 3B (rule R242). -/
def execSrl_E (s : State) : Result := gbNext (shiftOperand .srl (.reg .e)) s

/-- `SRL H`, opcode CB 3C (rule R242). -/
def execSrl_H (s : State) : Result := gbNext (shiftOperand .srl (.reg .h)) s

/-- `SRL L`, opcode CB 3D (rule R242). -/
def execSrl_L (s : State) : Result := gbNext (shiftOperand .srl (.reg .l)) s

/-- `SRL (HL)`, opcode CB 3E (rule R242). -/
def execSrl_atHL (s : State) : Result := gbNext (shiftOperand .srl .atHL) s

/-- `SRL A`, opcode CB 3F (rule R242). -/
def execSrl_A (s : State) : Result := gbNext (shiftOperand .srl (.reg .a)) s

end Sys2Proof.Machine
end

