-- ==== Sys2Proof/Machine/System.lean ====
section
/-! DEFINITION. `NOP`, `HALT`, `STOP`, `DI`, `EI`, the CB prefix and the undefined first bytes (spec/47_system.md). -/

namespace Sys2Proof.Machine

/-- Nothing but 4 cycles (rules R280, R282). -/
def idle4 (g : GameBoy) : GameBoy := g.spend 4

/-- `HALT` (rule R281). -/
def halt (g : GameBoy) : GameBoy := ({ g with halted := true } : GameBoy).spend 4

/-- `DI` and `EI`, at once (rules R283, R284). -/
def setIme (v : Bool) (g : GameBoy) : GameBoy := ({ g with ime := v } : GameBoy).spend 4

/-- The CB-page operation of a second byte, by its fields (rule R111). -/
def runCb (op2 : Byte) (g : GameBoy) : GameBoy :=
  let x := Operand.ofCode (fieldZ op2)
  let b : Fin 8 := ⟨fieldY op2, Nat.mod_lt _ (by decide)⟩
  match fieldX op2 with
  | 0 => shiftOperand (ShiftOp.ofCode (fieldY op2)) x g
  | 1 => bitTest b x g
  | 2 => bitReset b x g
  | _ => bitSet b x g

/-- The prefix byte by itself: fetch the second byte and run it (rule R285, log entry 15). -/
def runPrefix (g : GameBoy) : GameBoy := runCb (g.memRead (.fetch 1) g.pc) (g.skipBytes 1)

/-- An undefined first byte (rule R286): 4 cycles and nothing else, or under the other policy a stop with the byte and its address,
`PC - 1`. -/
def undefined (op : Byte) (s : State) : Result :=
  match s.cfg.undefPolicy with
  | .skip => gbNext idle4 s
  | .fault => .fault (.undefinedOpcode op (s.gb.pc - 1))

/-! ## The meanings, one for each instruction -/

/-- `NOP`, opcode 00 (rule R280). -/
def execNop (s : State) : Result := gbNext idle4 s

/-- `STOP`, opcode 10 (rule R282). -/
def execStop (s : State) : Result := gbNext idle4 s

/-- `HALT`, opcode 76 (rule R281). -/
def execHalt (s : State) : Result := gbNext halt s

/-- `PREFIX CB`, opcode CB (rule R285). -/
def execPrefixCb (s : State) : Result := gbNext runPrefix s

/-- `UNDEFINED 0xD3`, opcode D3 (rule R286). -/
def execUndefined_D3 (s : State) : Result := undefined 0xD3 s

/-- `UNDEFINED 0xDB`, opcode DB (rule R286). -/
def execUndefined_DB (s : State) : Result := undefined 0xDB s

/-- `UNDEFINED 0xDD`, opcode DD (rule R286). -/
def execUndefined_DD (s : State) : Result := undefined 0xDD s

/-- `UNDEFINED 0xE3`, opcode E3 (rule R286). -/
def execUndefined_E3 (s : State) : Result := undefined 0xE3 s

/-- `UNDEFINED 0xE4`, opcode E4 (rule R286). -/
def execUndefined_E4 (s : State) : Result := undefined 0xE4 s

/-- `UNDEFINED 0xEB`, opcode EB (rule R286). -/
def execUndefined_EB (s : State) : Result := undefined 0xEB s

/-- `UNDEFINED 0xEC`, opcode EC (rule R286). -/
def execUndefined_EC (s : State) : Result := undefined 0xEC s

/-- `UNDEFINED 0xED`, opcode ED (rule R286). -/
def execUndefined_ED (s : State) : Result := undefined 0xED s

/-- `DI`, opcode F3 (rule R283). -/
def execDi (s : State) : Result := gbNext (setIme false) s

/-- `UNDEFINED 0xF4`, opcode F4 (rule R286). -/
def execUndefined_F4 (s : State) : Result := undefined 0xF4 s

/-- `EI`, opcode FB (rule R284). -/
def execEi (s : State) : Result := gbNext (setIme true) s

/-- `UNDEFINED 0xFC`, opcode FC (rule R286). -/
def execUndefined_FC (s : State) : Result := undefined 0xFC s

/-- `UNDEFINED 0xFD`, opcode FD (rule R286). -/
def execUndefined_FD (s : State) : Result := undefined 0xFD s

end Sys2Proof.Machine
end

