-- ==== Sys2Proof/Machine/Ppu.lean ====
section
/-! DEFINITION. The PPU: the scanline engine, the background renderer and the VBlank request (spec/60_exceptions.md rules R413 to R418). -/

namespace Sys2Proof.Machine

/-- `pal[i]`: bits `2i+1` and `2i` of `BGP` (rule R415). -/
def palette (bgp : Byte) (i : Nat) : BitVec 2 := (bgp >>> (2 * i)).setWidth 2

/-- A byte of `vram` by its bus address. -/
def GameBoy.vramByte (g : GameBoy) (addr : Nat) : Byte := g.cell addr

/-- The address of a tile's 16 bytes (rules R414, R416): with `LCDC.4` from 0x8000, else signed from 0x9000. -/
def tileAddr (lcdc idx : Byte) : Nat :=
  if lcdc.getLsbD 4 then 0x8000 + idx.toNat * 16
  else if idx.toNat < 128 then 0x9000 + idx.toNat * 16
  else 0x9000 - (256 - idx.toNat) * 16

/-- The address of the tile-map entry of a background pixel (rule R414): 32 entries to a row. -/
def mapAddr (lcdc : Byte) (x y : Nat) : Nat := (if lcdc.getLsbD 3 then 0x9C00 else 0x9800) + y / 8 * 32 + x / 8

/-- The colour index of a background pixel: the low plane's byte first, leftmost pixel in bit 7 (rule R414). -/
def GameBoy.colourIndex (g : GameBoy) (x y : Nat) : Nat :=
  let taddr := tileAddr g.lcdc (g.vramByte (mapAddr g.lcdc x y))
  let b1 := g.vramByte (taddr + 2 * (y % 8))
  let b2 := g.vramByte (taddr + 2 * (y % 8) + 1)
  2 * (b2.getLsbD (7 - x % 8)).toNat + (b1.getLsbD (7 - x % 8)).toNat

/-- The shade of one column of a line (rule R414). -/
def GameBoy.shade (g : GameBoy) (ly col : Nat) : BitVec 2 :=
  if g.lcdc.getLsbD 0 then
    palette g.bgp (g.colourIndex ((col + g.scx.toNat) % 256) ((ly + g.scy.toNat) % 256))
  else 0

/-- Where a cell of the framebuffer is kept (rule R418). -/
def pixelIndex (line col : Nat) : Nat := line * 160 + col

/-- A cell of the framebuffer, as `framebuffer()` gives it (rule R418). -/
def GameBoy.fbCell (g : GameBoy) (line col : Nat) : BitVec 2 := Memory.read pixelInit g.framebuffer (pixelIndex line col)

/-- Draw one column of a line. -/
def GameBoy.drawPixel (ly : Nat) (g : GameBoy) (col : Nat) : GameBoy :=
  { g with framebuffer := Memory.write pixelInit g.framebuffer (pixelIndex ly col) (g.shade ly col) }

/-- `render_scanline(ly)` (rule R414). -/
def GameBoy.renderScanline (ly : Nat) (g : GameBoy) : GameBoy := (List.range 160).foldl (GameBoy.drawPixel ly) g

/-- The VBlank request: `frame_ready` and bit 0 of `IF` (rule R413). -/
def GameBoy.requestVblank (g : GameBoy) : GameBoy := { g.setCell 0xFF0F (g.ifReg ||| 0x01) with frameReady := true }

/-- The next value of `LY` (rule R413): `(ly + 1) mod 154`. -/
def nextLine (ly : Byte) : Byte := BitVec.ofNat 8 ((ly.toNat + 1) % 154)

/-- The end of one scanline (rule R413, step 3). -/
def GameBoy.lineEnd (g : GameBoy) : GameBoy :=
  let ly := g.ly
  let g1 := { g with scanlineCounter := g.scanlineCounter - Config.lineCycles }
  let g2 := if ly.toNat < 144 then g1.renderScanline ly.toNat else g1
  let g3 := g2.setCell 0xFF44 (nextLine ly)
  if nextLine ly = 144 then g3.requestVblank else g3

/-- The loop of rule R413, with as many turns at hand as the counter can ask for. -/
def GameBoy.lineLoop : Nat → GameBoy → GameBoy
  | 0, g => g
  | turns + 1, g => if Config.lineCycles ≤ g.scanlineCounter then g.lineEnd.lineLoop turns else g

/-- `ppu_advance(cycles)` (rule R413). -/
def GameBoy.ppuAdvance (cycles : Nat) (g : GameBoy) : GameBoy :=
  if g.lcdc.getLsbD 7 then
    let total := g.scanlineCounter + cycles
    { g with scanlineCounter := total }.lineLoop (total / Config.lineCycles)
  else g

end Sys2Proof.Machine
end

