-- ==== Sys2Proof/Machine/HostInterface.lean ====
section
/-! DEFINITION. The host's side: loading an image, reset, the buttons and keys, and what the host can read
(spec/70_reset_and_hazards.md rules R450 to R456, R464; spec/60_exceptions.md rule R420; spec/49_chip8.md rules R342 to R345). -/

namespace Sys2Proof.Machine

/-- `reset()` of a loaded Game Boy machine: the reset state, the image kept (rules R450, R452). The draw counter is the model's
own and is kept too (log entry 7). -/
def GameBoy.resetLoaded (g : GameBoy) : GameBoy :=
  { GameBoy.initial with rom := g.rom, romLen := g.romLen, epoch := g.epoch }

/-- `load_rom(bytes)` of an image long enough (rule R453). -/
def GameBoy.loadImage (bytes : List Byte) (g : GameBoy) : GameBoy :=
  GameBoy.resetLoaded { g with rom := Memory.ofBytes romInit 0 bytes, romLen := bytes.length }

/-- `load_rom(bytes)` of an image short enough: the reset state with the image at 0x200 (rules R50, R344). -/
def Chip8.ofImage (bytes : List Byte) : Chip8 :=
  { Chip8.initial with memory := Memory.ofBytes ch8Init 0x200 bytes, image := bytes }

/-- The machine's place in its random stream and its count of bell cues go on over a load and a reset: a draw after one may be any byte,
whatever the draws before it were (log entries 8, 14). -/
def Chip8.keepStreams (old new : Chip8) : Chip8 := { new with rngDraws := old.rngDraws, bells := old.bells }

/-- `reset()`: the state of the image last loaded (rule R344). -/
def Chip8.resetLoaded (c : Chip8) : Chip8 := c.keepStreams (Chip8.ofImage c.image)

/-- `set_button(index, pressed)` (rule R420). -/
def GameBoy.setButton (index : Fin 8) (pressed : Bool) (g : GameBoy) : GameBoy :=
  { g with buttons := if pressed then g.buttons &&& (0xFF ^^^ (1#8 <<< index.val)) else g.buttons ||| (1#8 <<< index.val) }

/-- A press that ends the wait of `FX0A` (rule R343). -/
def Chip8.latchKey (index : Nibble) (c : Chip8) : Chip8 :=
  { c.setReg c.waitReg (index.setWidth 8) with waitingForKey := false, pc := c.pc + 2 }

/-- `set_key(index, pressed)` (rule R343): only an edge ends the wait. -/
def Chip8.setKey (index : Nibble) (pressed : Bool) (c : Chip8) : Chip8 :=
  let c1 := { c with keys := c.keys.set index.toNat pressed index.isLt }
  if pressed && !c.key index && c.waitingForKey then c1.latchKey index else c1

/-- The call failed: the error is recorded and nothing else changes (rule R456). -/
def State.hostFailed (e : HostError) (s : State) : State := { s with hostError := some e }

/-- The call was done. -/
def State.hostDone (s : State) : State := { s with hostError := none }

/-- One host call other than `step_frame()` (rule R464). -/
def State.hostApply (call : HostCall) (s : State) : State :=
  match call with
  | .loadRom .gameBoy bytes =>
    if bytes.length < 32768 then s.hostFailed .romTooSmall
    else State.hostDone { s with gb := s.gb.loadImage bytes }
  | .loadRom .chip8 bytes =>
    if 3584 < bytes.length then s.hostFailed .romTooLarge
    else State.hostDone { s with ch8 := s.ch8.keepStreams (Chip8.ofImage bytes) }
  | .loadFailed _ => s.hostFailed .ioFailure
  | .reset .gameBoy =>
    if s.gb.romLen = 0 then s.hostFailed .invalidState
    else State.hostDone { s with gb := s.gb.resetLoaded }
  | .reset .chip8 => State.hostDone { s with ch8 := s.ch8.resetLoaded }
  | .run => State.hostDone { s with running := true, paused := false }
  | .pause => State.hostDone { s with paused := true }
  | .stop => State.hostDone { s with running := false }
  | .setButton index pressed => State.hostDone { s with gb := s.gb.setButton index pressed }
  | .setKey index pressed => State.hostDone { s with ch8 := s.ch8.setKey index pressed }
  | .select m => State.hostDone { s with active := m }

/-! ## What the host reads -/

/-- `framebuffer()` of the Game Boy machine: a shade by line and column (rule R418). -/
def GameBoy.framebufferView (g : GameBoy) (line : Fin 144) (col : Fin 160) : BitVec 2 :=
  g.fbCell line.val col.val

/-- `framebuffer()` of the CHIP-8 machine: 1 is lit (rule R345). -/
def Chip8.framebufferView (c : Chip8) (x : Fin 64) (y : Fin 32) : Bool := c.pixel x.val y.val

/-- A byte of the image by its offset. -/
def GameBoy.imageByte (g : GameBoy) (offset : Nat) : Byte := Memory.read romInit g.rom offset

/-- The title field, 16 bytes from 0x0134 (rule R454). -/
def GameBoy.headerTitle (g : GameBoy) : List Byte := (List.range 16).map (fun i => g.imageByte (0x0134 + i))

/-- The logo field, 48 bytes from 0x0104; it is not checked (rules R451, R454). -/
def GameBoy.headerLogo (g : GameBoy) : List Byte := (List.range 48).map (fun i => g.imageByte (0x0104 + i))

/-- The CGB label (rule R454). -/
def GameBoy.headerIsCgb (g : GameBoy) : Bool := g.imageByte 0x0143 == 0x80 || g.imageByte 0x0143 == 0xC0

/-- The cartridge type byte; every type runs the same (rule R454). -/
def GameBoy.headerCartridgeType (g : GameBoy) : Byte := g.imageByte 0x0147

/-- The cartridge types that are recognized labels (rule R454). -/
def recognizedCartridgeTypes : List Byte := [0x00, 0x01, 0x03, 0x13, 0x1B]

/-- The cartridge type is a recognized label. It is for the host's eyes: no controller is chosen by it (rule R454). -/
def GameBoy.headerCartridgeIsRecognized (g : GameBoy) : Bool := recognizedCartridgeTypes.contains g.headerCartridgeType

/-- The title of a `.gba` image, its bytes 0x00A0 to 0x00AB: all that is read of such an image, which is never run (rule R454; the
range is half open as the table's other ranges are, log entry 21). -/
def gbaHeaderTitle (image : List Byte) : List Byte := (image.drop 0x00A0).take (0x00AC - 0x00A0)

/-- The header checksum: from 0, `c - byte - 1` over 0x0134 to 0x014C (rule R455). -/
def GameBoy.headerChecksum (g : GameBoy) : Byte :=
  (List.range 25).foldl (fun c i => c - g.imageByte (0x0134 + i) - 1) 0

/-- Whether the stored checksum agrees; a mismatch refuses nothing (rule R455). -/
def GameBoy.headerChecksumOk (g : GameBoy) : Bool := g.headerChecksum == g.imageByte 0x014D

/-- The keypad index of a host key (rule R342). -/
def keypadOfHostKey (key : Char) : Option Nibble :=
  match key with
  | '1' => some 0x1
  | '2' => some 0x2
  | '3' => some 0x3
  | '4' => some 0xC
  | 'Q' => some 0x4
  | 'W' => some 0x5
  | 'E' => some 0x6
  | 'R' => some 0xD
  | 'A' => some 0x7
  | 'S' => some 0x8
  | 'D' => some 0x9
  | 'F' => some 0xE
  | 'Z' => some 0xA
  | 'X' => some 0x0
  | 'C' => some 0xB
  | 'V' => some 0xF
  | _ => none

end Sys2Proof.Machine
end

