-- ==== Sys2Proof/Machine/Scheduler.lean ====
section
/-! DEFINITION. The CPU step, the CHIP-8 step, and the turns of the frame ticks (spec/60_exceptions.md rules R401, R430;
spec/49_chip8.md rules R302, R340, R341). One turn is one pass of a tick's loop body (log entry 2). -/

namespace Sys2Proof.Machine

/-- Go on with a completed outcome; a stop stays a stop. -/
def onNext (r : Result) (f : State → State) : Result :=
  match r with
  | .next s => .next (f s)
  | .fault reason => .fault reason
  | .refused reason => .refused reason

/-! ## The Game Boy machine -/

/-- A halted step: no fetch, no change of CPU state, 4 cycles (rule R402). -/
def haltedWait (g : GameBoy) : GameBoy := g.spend 4

/-- The wake: the latch is cleared and nothing else happens (rule R403). -/
def wake (g : GameBoy) : GameBoy := { g with halted := false }

/-- Fetch, decode and execute one instruction (rules R103, R401 step 3). -/
def runInstr (s : State) : Result :=
  exec s.gb.fetchInstr.1 { s with gb := s.gb.skipBytes s.gb.fetchInstr.2 }

/-- Step 2 of rule R401: the interrupt test, then the instruction. -/
def interruptOrInstr (s : State) : Result :=
  if s.cfg.irqVectoring = .vblank ∧ s.gb.vblankPending = true then gbNext GameBoy.interruptEntry s else runInstr s

/-- `step()` (rule R401). The cycles it returns are left in `cycles`. -/
def cpuStep (s : State) : Result :=
  if s.gb.halted then
    if s.gb.wakePending then interruptOrInstr { s with gb := wake s.gb } else gbNext haltedWait s
  else interruptOrInstr s

/-- After a CPU step: its cycles go to the PPU, and the draw counter moves on. -/
def advancePpu (g : GameBoy) : GameBoy := { g.ppuAdvance g.cycles with epoch := g.epoch + 1 }

/-- The loop test of `step_frame` (rule R430): the tick ends with a frame or at the cap. -/
def gbTickStep (s : State) : State :=
  if s.gb.frameReady = true ∨ Config.gbStepCap ≤ s.tickSteps + 1 then
    { s with tickSteps := 0, tickReturned := some s.gb.frameReady }
  else { s with tickSteps := s.tickSteps + 1 }

/-- The rest of a turn after the CPU step. -/
def gbTurnEnd (s : State) : State := gbTickStep { s with gb := advancePpu s.gb }

/-- The start of a Game Boy tick clears `frame_ready` (rules R430, R431). -/
def gbTurnStart (s : State) : State :=
  if s.tickSteps = 0 then { s with gb := { s.gb with frameReady := false }, hostError := none } else s

/-- The tick was refused by the scheduler's flags: it returns false (rules R430, R340). -/
def idleTick (s : State) : State := { s with tickReturned := some false, hostError := none }

/-- Between ticks the flags stop the scheduler (rules R430, R340). -/
def State.stopped (s : State) : Bool := s.tickSteps == 0 && (!s.running || s.paused)

/-- One turn of `step_frame()` (rule R430). With no image loaded the call raises `InvalidState` (rule R456, log entry 9). -/
def gbTurn (s : State) : Result :=
  if s.gb.romLen = 0 then .next (s.hostFailed .invalidState)
  else if s.stopped then .next (idleTick s)
  else onNext (cpuStep (gbTurnStart s)) gbTurnEnd

/-! ## The CHIP-8 machine -/

/-- `ch8_step()` (rule R302). A word that matches no row does nothing beyond the fetch (rule R303). -/
def ch8Step (s : State) : Result :=
  if s.ch8.waitingForKey then .next s
  else
    match decodeCh8 s.ch8.fetchWord with
    | .ok i => exec i { s with ch8 := s.ch8.advance }
    | .error _ => .next { s with ch8 := s.ch8.advance }

/-- `timers_tick()` (rule R341). -/
def timersTick (c : Chip8) : Chip8 :=
  { c with delay := if c.delay = 0 then 0 else c.delay - 1, sound := if c.sound = 0 then 0 else c.sound - 1,
           bells := if c.sound = 1 then c.bells + 1 else c.bells }

/-- The end of a CHIP-8 tick: the timers, and true is returned (rule R340). -/
def ch8TickEnd (s : State) : State :=
  { s with ch8 := timersTick s.ch8, tickSteps := 0, tickReturned := some true }

/-- One instruction of the batch is done. -/
def ch8TickStep (s : State) : State :=
  if s.cfg.ch8Batch ≤ s.tickSteps + 1 then ch8TickEnd s else { s with tickSteps := s.tickSteps + 1 }

/-- The start of a CHIP-8 tick. -/
def ch8TurnStart (s : State) : State := if s.tickSteps = 0 then { s with hostError := none } else s

/-- One turn of `ch8_step_frame()` (rule R340). A batch of 0 has a turn for the timers alone (log entry 6). -/
def ch8Turn (s : State) : Result :=
  if s.stopped then .next (idleTick s)
  else if s.tickSteps < s.cfg.ch8Batch then onNext (ch8Step (ch8TurnStart s)) ch8TickStep
  else .next (ch8TickEnd (ch8TurnStart s))

/-! ## The scheduler -/

/-- One turn of the machine the scheduler is on. -/
def machineTurn (s : State) : Result :=
  match s.active with
  | .gameBoy => gbTurn s
  | .chip8 => ch8Turn s

/-- One turn (rules R430, R340, R464; log entries 2, 3): at a tick boundary the host's next event is a call, which is done, or a frame
tick, of which this is the first turn. Inside a tick, and when the host has nothing more to say, the active machine takes its turn. -/
def schedulerTurn (s : State) : Result :=
  match s.tickSteps, s.hostCalls with
  | 0, .call c :: rest => .next (State.hostApply c { s with hostCalls := rest })
  | 0, .stepFrame :: rest => machineTurn { s with hostCalls := rest }
  | 0, [] => machineTurn s
  | _ + 1, _ => machineTurn s

/-! ## Placing an instruction where the next turn fetches it -/

/-- The scheduler set so that the very next turn is a turn of a machine (log entry 17). -/
def State.readyFor (m : MachineId) (s : State) : State :=
  { s with active := m, running := true, paused := false, tickSteps := 0, hostCalls := [] }

/-- The bytes at `PC`, with the CPU awake and no interrupt to take. -/
def State.gbPlaced (bytes : List Byte) (s : State) : State :=
  let g := wake (s.gb.placeBytes s.gb.pc bytes)
  { s with gb := if s.cfg.irqVectoring = .vblank ∧ g.vblankPending = true then { g with ime := false } else g }

/-- The bytes at `pc`, with no key waited for. -/
def State.ch8Placed (bytes : List Byte) (s : State) : State :=
  { s with ch8 := { s.ch8.placeBytes s.ch8.pc bytes with waitingForKey := false } }

/-- The instruction with bits `w` (log entry 16) stored where the next turn fetches it. A Game Boy instruction gets three bytes. -/
def State.placeWord (s : State) (nbits w : Nat) : State :=
  match tableWordBytes nbits w with
  | (.gameBoy, bytes) => ((bytes ++ [0, 0, 0]).take 3 |> (s.readyFor .gameBoy).gbPlaced)
  | (.chip8, bytes) => (s.readyFor .chip8).ch8Placed bytes

end Sys2Proof.Machine
end

