-- ==== Sys2Proof/Machine/Step.lean ====
section
/-! DEFINITION. The step of the whole machine, and the state in which a given instruction is the next one fetched. -/

namespace Sys2Proof.Machine

/-- One step: one host call at a tick boundary, or one turn of the active machine (log entries 1, 2, 3). -/
def step (s : State) : Host.Outcome State Fault Refusal := schedulerTurn s

/-- `s` with the instruction of bits `w` where the next step fetches (log entries 16, 17). -/
def State.withFetchWord (s : State) (nbits w : Nat) : State := s.placeWord nbits w

end Sys2Proof.Machine
end

