-- ==== Sys2Proof/Safety.lean ====
section
/-! DEFINITION. What a sound state is (spec/10_state.md rules R38, R51), and the ends of a run (spec/70_reset_and_hazards.md rule R463), in
the terms the statements use. -/

namespace Sys2Proof.Machine

/-- The bus addresses that have a byte of storage of their own (rules R30, R61): the echo range has none. -/
def storedAt (k : Nat) : Bool :=
  (decide (0x8000 ≤ k) && decide (k < 0xE000)) || (decide (0xFE00 ≤ k) && decide (k < 0xFEA0)) ||
    (decide (0xFF00 ≤ k) && decide (k < 0x10000))

/-- The invariants of the Game Boy machine (rule R38; rules R30, R36, R37, R65). -/
structure GameBoy.Inv (g : GameBoy) : Prop where
  memCanonical : Memory.wf busInit g.mem = true
  memPlaced : g.mem.all (fun cell => storedAt cell.1) = true
  joypadSelector : g.cell 0xFF00 &&& 0xCF = 0
  romCanonical : Memory.wf romInit g.rom = true
  romPlaced : Memory.below g.romLen g.rom = true
  romSize : g.romLen = 0 ∨ 32768 ≤ g.romLen
  bankNonzero : g.romBank ≠ 0
  counterBounded : g.scanlineCounter < Config.lineCycles
  framebufferCanonical : Memory.wf pixelInit g.framebuffer = true
  framebufferPlaced : Memory.below 23040 g.framebuffer = true

/-- The invariants of the CHIP-8 machine (rules R40, R51). -/
structure Chip8.Inv (c : Chip8) : Prop where
  memoryCanonical : Memory.wf ch8Init c.memory = true
  memoryPlaced : Memory.below 4096 c.memory = true
  imageFits : c.image.length ≤ 3584

/-- A tick in progress is inside its bound (rules R430, R340). -/
def State.tickBounded (s : State) : Prop :=
  match s.active with
  | .gameBoy => s.tickSteps < Config.gbStepCap
  | .chip8 => s.tickSteps = 0 ∨ s.tickSteps < s.cfg.ch8Batch

/-- The invariant of the whole state. -/
structure State.Inv (s : State) : Prop where
  gb : s.gb.Inv
  ch8 : s.ch8.Inv
  tick : s.tickBounded

/-- Halted for good (rule R463): the latch set, no enabled request, and no agent that can change it. -/
def GameBoy.haltedForGood (g : GameBoy) : Prop :=
  g.halted = true ∧ g.wakePending = false ∧ (g.ieReg.getLsbD 0 = false ∨ g.lcdc.getLsbD 7 = false)

/-- The bytes at `PC` are `JR -2` (18 FE), or `JP` to itself (C3 and `PC`, low byte first) (rule R463). -/
def GameBoy.jumpsToItself (g : GameBoy) : Prop :=
  (g.memRead (.fetch 0) g.pc = 0x18 ∧ g.memRead (.fetch 1) (g.pc + 1) = 0xFE) ∨
    (g.memRead (.fetch 0) g.pc = 0xC3 ∧ g.memRead (.fetch 2) (g.pc + 2) ++ g.memRead (.fetch 1) (g.pc + 1) = g.pc)

/-- No interrupt can break a loop: `ime` is 0 or there is no vectoring (decision D22, point 2). -/
def State.uninterrupted (s : State) : Prop := s.gb.ime = false ∨ s.cfg.irqVectoring = .none

/-- The tight loop of rule R463, with the condition of decision D22, point 2. -/
def State.tightLoop (s : State) : Prop := s.gb.halted = false ∧ s.gb.jumpsToItself ∧ s.uninterrupted

/-- The end of a run as decision D22, point 2 has it: a CPU step that leaves `PC` as it was and changes nothing else (the cycles it
returns apart), and no interrupt to come. `State.tightLoop` is the case of it that rule R463 names. -/
def State.repeatsItself (s : State) : Prop :=
  s.gb.halted = false ∧ s.uninterrupted ∧ ∃ n, cpuStep s = .next { s with gb := s.gb.spend n }

/-- `JP` to itself on the CHIP-8 machine (rules R307, R340). -/
def Chip8.tightLoop (c : Chip8) : Prop := c.waitingForKey = false ∧ decodeCh8 c.fetchWord = .ok (.ch8_jp_nnn c.pc)

/-- A step that completes. -/
def completes (s : State) : Prop := ∃ t, step s = .next t

/-- The CPU registers that `step()` reads and writes (rule R38), as one value: what "no change of CPU state" leaves alone. -/
def GameBoy.cpuState (g : GameBoy) : (Byte × Flags) × (Byte × Byte × Byte × Byte × Byte × Byte) × Word × Word × Bool × Bool :=
  ((g.a, g.f), (g.b, g.c, g.d, g.e, g.h, g.l), g.sp, g.pc, g.ime, g.halted)

/-! ## Frames -/

/-- The addresses whose reads a byte write to `a` can change (rules R61, R62): the latches change what a whole range shows, the DMA
trigger writes `oam`, and a stored byte shows at every address kept in the same place. -/
def mayTouch (a b : Word) : Bool :=
  match regionOf a with
  | .ramGate => regionOf b == .eram
  | .bankSelect => regionOf b == .romWindow
  | .romWindow => false
  | .unusable => false
  | .dma => b == 0xFF46 || regionOf b == .oam
  | .joypad => b == 0xFF00
  | .vram | .eram | .wram | .echo | .oam | .io | .hram | .ie => storageAddr b == storageAddr a

/-- The addresses whose reads a write of two bytes at `a` and `a + 1` can change. -/
def mayTouchTwo (a b : Word) : Bool := mayTouch a b || mayTouch (a + 1) b

/-- The instruction runs to `t`, and every byte of memory reads in `t` as it did before. -/
def runsStoringNothing (i : Instr) (s t : State) : Prop :=
  exec i s = .next t ∧ ∀ slot addr, t.gb.memRead slot addr = s.gb.memRead slot addr

/-- The instruction runs to `t`, and every byte outside the touched addresses reads in `t` as it did before (in a canonical
memory, which the invariant gives). -/
def runsStoring (i : Instr) (touched : Word → Bool) (s t : State) : Prop :=
  exec i s = .next t ∧
    (Memory.wf busInit s.gb.mem = true →
      ∀ slot addr, touched addr = false → t.gb.memRead slot addr = s.gb.memRead slot addr)

/-- The value of a packed BCD byte whose digits are both 0 to 9. -/
def bcdValue (v : Byte) : Nat := v.toNat / 16 * 10 + v.toNat % 16

/-- Both digits of a byte are 0 to 9. -/
def isBcd (v : Byte) : Bool := decide (v.toNat / 16 ≤ 9) && decide (v.toNat % 16 ≤ 9)

/-- The addresses with storage that a program reads back as it wrote them (rules R61, R62): `vram`, `wram`, its echo, `oam`, `io`
other than the joypad port, `hram` and `ie`. -/
def plainStorage (a : Word) : Bool :=
  match regionOf a with
  | .vram | .wram | .echo | .oam | .io | .dma | .hram | .ie => true
  | .ramGate | .bankSelect | .romWindow | .eram | .unusable | .joypad => false

/-! ## Terms of single statements -/

/-- The state with another value of `ime`. -/
def State.withIme (b : Bool) (s : State) : State := { s with gb := { s.gb with ime := b } }

/-- The sprite bit that `DRW` puts on a pixel (rule R327): inside the 8 by `n` box at (`V[x]` mod 64, `V[y]` mod 32) the bit of the
row's byte, leftmost pixel in bit 7; outside it none. A box that leaves the display has no pixel there. -/
def Chip8.spriteBit (c : Chip8) (x y n : Nibble) (px py : Nat) : Bool :=
  let x0 := (c.reg x).toNat % 64
  let y0 := (c.reg y).toNat % 32
  decide (x0 ≤ px) && decide (px < x0 + 8) && decide (y0 ≤ py) && decide (py < y0 + n.toNat) &&
    (c.load (c.i + BitVec.ofNat 12 (py - y0))).getLsbD (7 - (px - x0))

/-- Whether the CPU's next turn takes the VBlank interrupt if it is awake (rules R404, R405). -/
def State.takesInterrupt (s : State) : Bool :=
  s.cfg.irqVectoring == .vblank && s.gb.ime && (s.gb.ifReg &&& s.gb.ieReg).getLsbD 0

/-- The scheduler's next step is a turn of the named machine: the host has no event to come first, and no flag holds it back. -/
def State.turnOf (m : MachineId) (s : State) : Prop :=
  s.active = m ∧ (s.tickSteps ≠ 0 ∨ (s.hostCalls = [] ∧ s.running = true ∧ s.paused = false))

end Sys2Proof.Machine
end

