-- ==== Sys2Proof/Certificates/Slice0/Obligations.lean ====
section
/-! DEFINITION. The statements for the provers. An instruction's statement says the whole next state, so everything it does not name is
unchanged; `runsStoringNothing` and `runsStoring` add that every byte of memory, or every byte outside the stored ones, reads as
before. -/

open Sys2Proof Sys2Proof.Machine

/-! ## Encoding -/

/-- Decoding an encoded instruction gives it back, whatever bytes follow (rules R100 to R111, R301, R346). The one exception to what may
follow is the table's one-byte row `PREFIX CB`, which is always followed by one more opcode byte (rule R285). -/
def Obligations.EncodeDecodeRoundTrip : Prop :=
  ∀ i : Instr, i.wellFormed = true →
    decode i.machine (encode i) = .ok (i, []) ∧
      (i ≠ .prefixCb → ∀ rest : List Byte, decode i.machine (encode i ++ rest) = .ok (i, rest))

/-- What is decoded is exactly what was encoded: the bytes an instruction was read from are its encoding, so each byte string has one
meaning and no bit is ignored. -/
def Obligations.DecodedBytesAreTheEncoding : Prop :=
  ∀ (m : MachineId) (bytes rest : List Byte) (i : Instr), decode m bytes = .ok (i, rest) →
    i.machine = m ∧ i.wellFormed = true ∧ bytes = encode i ++ rest

/-- Any three bytes hold one LR35902 instruction (rules R100, R103, R110 to R112), and the machine's fetch is the decoder: it takes that
instruction and its length. -/
def Obligations.EveryFetchDecodes : Prop :=
  ∀ b0 b1 b2 : Byte, ∃ i rest, decode .gameBoy [b0, b1, b2] = .ok (i, rest) ∧ i ≠ .prefixCb ∧
    instrOfBytes b0 b1 b2 = (i, (encode i).length) ∧ 1 ≤ (encode i).length ∧ (encode i).length ≤ 3

/-- The field patterns of the primary page and the CB page (rules R104 to R111): each family's bytes are made of its operand codes. -/
def Obligations.EncodingFieldPatterns : Prop :=
  (∀ dst src, encode (Instr.ldRR dst src) = [BitVec.ofNat 8 (0x40 + 8 * dst.code + src.code)]) ∧
  (∀ dst n, encode (Instr.ldRN dst n) = [BitVec.ofNat 8 (0x06 + 8 * dst.code), n]) ∧
  (∀ dst, encode (Instr.ldRHL dst) = [BitVec.ofNat 8 (0x46 + 8 * dst.code)]) ∧
  (∀ src, encode (Instr.ldHLR src) = [BitVec.ofNat 8 (0x70 + src.code)]) ∧
  (∀ p nn, encode (Instr.ldRRnn p nn) = [BitVec.ofNat 8 (0x01 + 16 * p.code), lowByte nn, highByte nn]) ∧
  (∀ p, encode (Instr.addHLrr p) = [BitVec.ofNat 8 (0x09 + 16 * p.code)]) ∧
  (∀ p, encode (Instr.incRR p) = [BitVec.ofNat 8 (0x03 + 16 * p.code)]) ∧
  (∀ p, encode (Instr.decRR p) = [BitVec.ofNat 8 (0x0B + 16 * p.code)]) ∧
  (∀ x, encode (Instr.incOp x) = [BitVec.ofNat 8 (0x04 + 8 * x.code)]) ∧
  (∀ x, encode (Instr.decOp x) = [BitVec.ofNat 8 (0x05 + 8 * x.code)]) ∧
  (∀ op x, encode (Instr.aluOp op x) = [BitVec.ofNat 8 (0x80 + 8 * op.code + x.code)]) ∧
  (∀ op n, encode (Instr.aluImm op n) = [BitVec.ofNat 8 (0xC6 + 8 * op.code), n]) ∧
  (∀ p, encode (Instr.pushRR p) = [BitVec.ofNat 8 (0xC5 + 16 * p.code)]) ∧
  (∀ p, encode (Instr.popRR p) = [BitVec.ofNat 8 (0xC1 + 16 * p.code)]) ∧
  (∀ cc e, encode (Instr.jrCC cc e) = [BitVec.ofNat 8 (0x20 + 8 * cc.code), e]) ∧
  (∀ cc nn, encode (Instr.jpCC cc nn) = [BitVec.ofNat 8 (0xC2 + 8 * cc.code), lowByte nn, highByte nn]) ∧
  (∀ cc nn, encode (Instr.callCC cc nn) = [BitVec.ofNat 8 (0xC4 + 8 * cc.code), lowByte nn, highByte nn]) ∧
  (∀ cc, encode (Instr.retCC cc) = [BitVec.ofNat 8 (0xC0 + 8 * cc.code)]) ∧
  (∀ t : Fin 8, encode (Instr.rstT t) = [BitVec.ofNat 8 (0xC7 + 8 * t.val)]) ∧
  (∀ op x, encode (Instr.shiftOp op x) = [0xCB, BitVec.ofNat 8 (8 * op.code + x.code)]) ∧
  (∀ (b : Fin 8) x, encode (Instr.bitOp b x) = [0xCB, BitVec.ofNat 8 (0x40 + 8 * b.val + x.code)]) ∧
  (∀ (b : Fin 8) x, encode (Instr.resOp b x) = [0xCB, BitVec.ofNat 8 (0x80 + 8 * b.val + x.code)]) ∧
  (∀ (b : Fin 8) x, encode (Instr.setOp b x) = [0xCB, BitVec.ofNat 8 (0xC0 + 8 * b.val + x.code)])

/-- Words the spec writes out: scenarios 4 and 5 of §8 (`00`, `3E 42`, `06 58`, `80`, `C3 00 01`), `CB CB` (rule R285), and CHIP-8
examples of rules R312, R318, R324, R327, R331. -/
def Obligations.SpecWordsDecode : Prop :=
  decode .gameBoy [0x00] = .ok (.nop, []) ∧
  decode .gameBoy [0x3E, 0x42] = .ok (.ld_A_n 0x42, []) ∧
  decode .gameBoy [0x06, 0x58] = .ok (.ld_B_n 0x58, []) ∧
  decode .gameBoy [0x80] = .ok (.add_A_B, []) ∧
  decode .gameBoy [0xC3, 0x00, 0x01] = .ok (.jp_nn 0x0100, []) ∧
  decode .gameBoy [0xCB, 0xCB] = .ok (.set_1_E, []) ∧
  decode .chip8 [0x60, 0x05] = .ok (.ch8_ld_Vx_nn 0 0x05, []) ∧
  decode .chip8 [0x80, 0x14] = .ok (.ch8_add_Vx_Vy 0 1, []) ∧
  decode .chip8 [0xA2, 0x10] = .ok (.ch8_ld_I_nnn 0x210, []) ∧
  decode .chip8 [0xD0, 0x01] = .ok (.ch8_drw_Vx_Vy_n 0 0 1, []) ∧
  decode .chip8 [0xF2, 0x0A] = .ok (.ch8_ld_Vx_K 2, [])

/-- The eleven undefined first bytes (rules R112, R286): one byte, 4 cycles and nothing else under the policy the spec takes; under the
other one the stop `UndefinedOpcode(op, PC - 1)`. -/
def Obligations.UndefinedOpcodesSkip : Prop :=
  ∀ p ∈ [((0xD3 : Byte), Instr.undefined_D3), (0xDB, .undefined_DB), (0xDD, .undefined_DD), (0xE3, .undefined_E3),
      (0xE4, .undefined_E4), (0xEB, .undefined_EB), (0xEC, .undefined_EC), (0xED, .undefined_ED), (0xF4, .undefined_F4),
      (0xFC, .undefined_FC), (0xFD, .undefined_FD)], ∀ s : State,
    (∀ rest, decode .gameBoy (p.1 :: rest) = .ok (p.2, rest)) ∧
    (s.cfg.undefPolicy = .skip → runsStoringNothing p.2 s { s with gb := { s.gb with cycles := 4 } }) ∧
    (s.cfg.undefPolicy = .fault → exec p.2 s = .fault (.undefinedOpcode p.1 (s.gb.pc - 1)))

/-- The CHIP-8 words that match no row are those of rule R303, and the step on one does nothing beyond the fetch. -/
def Obligations.Chip8UnknownWordsAreIgnored : Prop :=
  (∀ op : Word, decodeCh8 op = .error (.unknownChip8 op) ↔
    ((ch8Major op = 5 ∧ ch8N op ≠ 0) ∨ (ch8Major op = 8 ∧ 8 ≤ (ch8N op).toNat ∧ (ch8N op).toNat ≠ 0xE) ∨
      (ch8Major op = 9 ∧ ch8N op ≠ 0) ∨ (ch8Major op = 0xE ∧ lowByte op ≠ 0x9E ∧ lowByte op ≠ 0xA1) ∨
      (ch8Major op = 0xF ∧ lowByte op ∉ [(0x07 : Byte), 0x0A, 0x15, 0x18, 0x1E, 0x29, 0x33, 0x55, 0x65]))) ∧
  (∀ (s : State) (e : DecodeError), s.ch8.waitingForKey = false → decodeCh8 s.ch8.fetchWord = .error e →
    ch8Step s = .next { s with ch8 := { s.ch8 with pc := s.ch8.pc + 2 } })

/-! ## The step -/

/-- A step runs the decoded instruction (rules R103, R401): with `PC` past its bytes, between the start of the turn and the rest of it.
Whatever the CPU step is (an instruction, a halted wait, a wake, an interrupt entry), its cycles go to the PPU and the tick ends with a
frame or at 17556 turns (rules R401, R430, R431). The CHIP-8 step runs the decoded instruction, read big-endian at `pc`, with `pc` two
further (rules R300, R302). The draw counter is the model's own (log entry 7), and so are one turn for each step (log entry 2) and the
record of what a tick returned (log entry 14). -/
def Obligations.StepRunsDecodedInstruction : Prop :=
  (∀ (s : State) (i : Instr) (rest : List Byte), s.turnOf .gameBoy → s.gb.romLen ≠ 0 → s.gb.halted = false →
     s.takesInterrupt = false →
     decode .gameBoy [s.gb.memRead (.fetch 0) s.gb.pc, s.gb.memRead (.fetch 1) (s.gb.pc + 1),
       s.gb.memRead (.fetch 2) (s.gb.pc + 2)] = .ok (i, rest) →
     step s = onNext (exec i { gbTurnStart s with gb := { (gbTurnStart s).gb with
       pc := s.gb.pc + BitVec.ofNat 16 (encode i).length } }) gbTurnEnd) ∧
  (∀ s : State, s.turnOf .gameBoy → s.gb.romLen ≠ 0 → step s = onNext (cpuStep (gbTurnStart s)) gbTurnEnd) ∧
  (∀ (s : State) (i : Instr) (rest : List Byte), s.turnOf .chip8 → s.tickSteps < s.cfg.ch8Batch →
     s.ch8.waitingForKey = false → decode .chip8 [s.ch8.load s.ch8.pc, s.ch8.load (s.ch8.pc + 1)] = .ok (i, rest) →
     step s = onNext (exec i { ch8TurnStart s with ch8 := { s.ch8 with pc := s.ch8.pc + 2 } }) ch8TickStep) ∧
  (∀ s : State,
     gbTurnEnd s =
       (if (s.gb.ppuAdvance s.gb.cycles).frameReady = true ∨ 17556 ≤ s.tickSteps + 1 then
         { s with gb := { s.gb.ppuAdvance s.gb.cycles with epoch := s.gb.epoch + 1 }, tickSteps := 0,
                  tickReturned := some (s.gb.ppuAdvance s.gb.cycles).frameReady }
       else
         { s with gb := { s.gb.ppuAdvance s.gb.cycles with epoch := s.gb.epoch + 1 }, tickSteps := s.tickSteps + 1 }) ∧
     (s.tickSteps = 0 → gbTurnStart s = { s with gb := { s.gb with frameReady := false }, hostError := none }) ∧
     (s.tickSteps ≠ 0 → gbTurnStart s = s))

/-- A halted step reads no instruction, changes no CPU state and returns 4 while `IF & IE` is 0, and those 4 cycles go to the PPU;
otherwise the latch clears and the step goes on as the step of a running CPU (rules R401, R402, R403, R430). That it goes on in the same
step is the spec's decision D5; what a whole step is around the CPU step is the model's (log entries 2, 7, 14). -/
def Obligations.HaltedStepWaitsOrWakes : Prop :=
  ∀ s : State, s.gb.halted = true →
    (s.gb.ifReg &&& s.gb.ieReg = 0 → cpuStep s = .next { s with gb := { s.gb with cycles := 4 } }) ∧
    (s.gb.ifReg &&& s.gb.ieReg = 0 → s.turnOf .gameBoy → s.gb.romLen ≠ 0 →
      step s = .next (gbTurnEnd { gbTurnStart s with gb := { (gbTurnStart s).gb with cycles := 4 } })) ∧
    (s.gb.ifReg &&& s.gb.ieReg ≠ 0 → cpuStep s = cpuStep { s with gb := { s.gb with halted := false } })

/-- Interrupt entry (rule R405): taken with `ime` set and bit 0 pending and enabled; `ime` is cleared, the request acknowledged, `PC`
pushed, and `PC` goes to 0x0040 at a cost of 20. -/
def Obligations.InterruptEntry : Prop :=
  ∀ s : State, s.cfg.irqVectoring = .vblank → s.gb.ime = true → s.gb.ifReg.getLsbD 0 = true → s.gb.ieReg.getLsbD 0 = true →
    cpuStep s = .next { s with gb :=
      { (({ s.gb with ime := false, halted := false } : GameBoy).memWrite 0xFF0F (s.gb.ifReg &&& 0xFE)).push16 s.gb.pc with
        pc := 0x0040, cycles := 20 } }

/-- Under `IRQ_VECTORING = none` nothing reads `ime` (rules R28, R404): a step from a state with another `ime` ends in the same way, in a
state that differs at most in `ime`. -/
def Obligations.ImeIsNeverObservedWithoutVectoring : Prop :=
  ∀ (s : State) (b : Bool), s.cfg.irqVectoring = .none →
    (∀ t, step s = .next t → ∃ t', step (s.withIme b) = .next t' ∧ t'.withIme false = t.withIme false) ∧
    (∀ f, step s = .fault f → step (s.withIme b) = .fault f)

/-- No instruction traps (rules R400, R303): under the policy the spec takes every step gives a next state; and whatever the policy, no
step is refused and the only stop is that of an undefined first byte. -/
def Obligations.EveryStepCompletes : Prop :=
  ∀ s : State, (s.cfg.undefPolicy = .skip → ∃ t, step s = .next t) ∧ (∀ r, step s ≠ .refused r) ∧
    (∀ f, step s = .fault f → s.cfg.undefPolicy = .fault ∧ ∃ op address, f = .undefinedOpcode op address)

/-- A tick ends within its bound (rules R430, R340): a Game Boy tick after at most 17556 turns, and earlier only with a frame; a CHIP-8
tick after its batch. That a step is one turn, and a batch of 0 one turn for the timers, is the model's choice (log entries 2, 6). -/
def Obligations.EveryTickEnds : Prop :=
  ∀ s : State, s.cfg.undefPolicy = .skip → s.tickSteps = 0 → s.hostCalls = [] → s.running = true → s.paused = false →
    (s.active = .gameBoy → s.gb.romLen ≠ 0 → ∃ k t, 1 ≤ k ∧ k ≤ 17556 ∧ Host.Core.run Sys2Proof.core k s = .next t ∧
      t.tickSteps = 0 ∧ t.tickReturned = some t.gb.frameReady ∧ (k < 17556 → t.gb.frameReady = true)) ∧
    (s.active = .chip8 → ∃ t, Host.Core.run Sys2Proof.core (max 1 s.cfg.ch8Batch) s = .next t ∧ t.tickSteps = 0 ∧
      t.tickReturned = some true)

/-- A CPU halted for good stays so (rule R463): after any number of steps with no host call to come, no CPU register has changed. -/
def Obligations.HaltedForGoodIsFinal : Prop :=
  ∀ (k : Nat) (s : State), s.Inv → s.active = .gameBoy → s.hostCalls = [] → s.gb.haltedForGood →
    ∃ t, Host.Core.run Sys2Proof.core k s = .next t ∧ t.gb.haltedForGood ∧ t.gb.cpuState = s.gb.cpuState

/-! ## Invariants -/

/-- The state after reset meets the invariant. -/
def Obligations.ResetMeetsInvariant : Prop := State.reset.Inv

/-- Every step keeps the invariant (rules R38, R51): the stores stay canonical and inside the memories, the joypad port keeps its two
selector bits, `rom_bank` stays above 0, the scanline counter stays below 456. -/
def Obligations.StepKeepsInvariant : Prop :=
  ∀ s t : State, s.Inv → step s = .next t → t.Inv

/-- What no instruction writes (rules R30, R36, R37, R38): the ROM image, the input latch, the PPU's hidden state with the framebuffer.
The display of the CHIP-8 machine changes only by `CLS` and `DRW`, its keys and stored image by no instruction (rules R46, R47, R51). -/
def Obligations.InstructionsLeaveRomPpuAndDisplay : Prop :=
  (∀ (i : Instr) (s t : State), exec i s = .next t →
     t.gb.rom = s.gb.rom ∧ t.gb.romLen = s.gb.romLen ∧ t.gb.buttons = s.gb.buttons ∧
     t.gb.scanlineCounter = s.gb.scanlineCounter ∧ t.gb.frameReady = s.gb.frameReady ∧ t.gb.framebuffer = s.gb.framebuffer ∧
     t.ch8.keys = s.ch8.keys ∧ t.ch8.image = s.ch8.image) ∧
  (∀ (i : Instr) (s t : State), exec i s = .next t → i ≠ .ch8_cls → (∀ x y n, i ≠ .ch8_drw_Vx_Vy_n x y n) →
     t.ch8.gfx = s.ch8.gfx)

/-- The two machines share nothing (rule R3): an instruction of one changes nothing of the other or of the scheduler, and what it does
does not depend on the other. -/
def Obligations.MachinesShareNothing : Prop :=
  ∀ (i : Instr) (s : State),
    (i.machine = .gameBoy → (∀ t, exec i s = .next t → { t with gb := s.gb } = s) ∧
      (∀ c, exec i { s with ch8 := c } = onNext (exec i s) (fun t => { t with ch8 := c }))) ∧
    (i.machine = .chip8 → (∀ t, exec i s = .next t → { t with ch8 := s.ch8 } = s) ∧
      (∀ g, exec i { s with gb := g } = onNext (exec i s) (fun t => { t with gb := g })))

/-- Every instruction's cost is one of 4, 8, 12, 16, 20, 24 T-states (rules R7, R462), and so is that of every CPU step. -/
def Obligations.CyclesAreOneOfSix : Prop :=
  (∀ (i : Instr) (s t : State), i.machine = .gameBoy → exec i s = .next t → t.gb.cycles ∈ [4, 8, 12, 16, 20, 24]) ∧
  (∀ s t : State, cpuStep s = .next t → t.gb.cycles ∈ [4, 8, 12, 16, 20, 24])

/-- What a step never changes (rules R6, R80, R464): the parameters; and, unless the step is a host call, the ROM image, the buttons, the
keys, the scheduler's flags, the machine it is on; of the host's events to come (log entry 3) a step takes at most the first, and that
only at a tick boundary. -/
def Obligations.InputsComeOnlyByHostCalls : Prop :=
  ∀ s t : State, step s = .next t → t.cfg = s.cfg ∧
    t.hostCalls = (if s.tickSteps = 0 then s.hostCalls.tail else s.hostCalls) ∧
    ((s.tickSteps ≠ 0 ∨ ∀ call rest, s.hostCalls ≠ .call call :: rest) →
      t.gb.rom = s.gb.rom ∧ t.gb.romLen = s.gb.romLen ∧ t.gb.buttons = s.gb.buttons ∧ t.ch8.keys = s.ch8.keys ∧
      t.ch8.image = s.ch8.image ∧ t.running = s.running ∧ t.paused = s.paused ∧ t.active = s.active)

/-! ## Reset, loading and the host -/

/-- The Game Boy reset state (rules R39, R450): the nine constants of the document and the values the spec takes for the rest (its
decision D9); and a host reset gives it again, with the image kept (rule R452). -/
def Obligations.GameBoyResetState : Prop :=
  let g := State.reset.gb
  (g.a = 0x01 ∧ g.f.toByte = 0xB0 ∧ g.bc = 0x0013 ∧ g.de = 0x00D8 ∧ g.hl = 0x014D ∧ g.sp = 0xFFFE ∧ g.pc = 0x0100 ∧
    g.lcdc = 0x91 ∧ g.bgp = 0xFC) ∧
  (g.ime = false ∧ g.halted = false ∧ g.romBank = 1 ∧ g.ramEnabled = false ∧ g.buttons = 0xFF ∧ g.scanlineCounter = 0 ∧
    g.frameReady = false) ∧
  (∀ k, k ≠ 0xFF40 → k ≠ 0xFF47 → g.cell k = 0x00) ∧
  (∀ line col, g.fbCell line col = 0) ∧
  g.memRead (.data 0) 0xFF00 = 0x0F ∧
  (∀ s : State, s.gb.romLen ≠ 0 → State.hostApply (.reset .gameBoy) s =
    { s with gb := { g with rom := s.gb.rom, romLen := s.gb.romLen, epoch := s.gb.epoch }, hostError := none })

/-- `load_rom` of the Game Boy machine (rule R453): a short image is refused and changes nothing else; another is in ROM, byte for byte,
its first 32 KiB mapped directly, and the machine is reset. -/
def Obligations.LoadRomMapsTheImage : Prop :=
  ∀ (s : State) (bytes : List Byte),
    (bytes.length < 32768 → State.hostApply (.loadRom .gameBoy bytes) s = { s with hostError := some .romTooSmall }) ∧
    (32768 ≤ bytes.length → ∃ g, State.hostApply (.loadRom .gameBoy bytes) s = { s with gb := g, hostError := none } ∧
      { g with rom := [], romLen := 0, epoch := 0 } = State.reset.gb ∧ g.romLen = bytes.length ∧
      g.nbanks = (bytes.length + 16383) / 16384 ∧
      (∀ k (h : k < bytes.length), g.imageByte k = bytes[k]) ∧
      (∀ slot (addr : Word) (h : addr.toNat < bytes.length), addr.toNat < 0x8000 →
        g.memRead slot addr = bytes[addr.toNat]))

/-- Loading and reset of the CHIP-8 machine (rules R50, R344): too long an image is refused and changes nothing else; another gives the
reset state with the image at 0x200 and the font at 0x050; a reset gives that state again. The place in the random stream and the count
of bell cues are the model's own and go on (log entries 8, 14). -/
def Obligations.Chip8LoadAndReset : Prop :=
  ∀ (s : State) (bytes : List Byte),
    (3584 < bytes.length → State.hostApply (.loadRom .chip8 bytes) s = { s with hostError := some .romTooLarge }) ∧
    (bytes.length ≤ 3584 → ∃ c, State.hostApply (.loadRom .chip8 bytes) s = { s with ch8 := c, hostError := none } ∧
      (∀ k (h : k < bytes.length), c.load (BitVec.ofNat 12 (0x200 + k)) = bytes[k]) ∧
      (∀ k, k < 80 → c.load (BitVec.ofNat 12 (0x050 + k)) = fontBytes.getD k 0) ∧
      (∀ a : Addr12, ¬ (0x050 ≤ a.toNat ∧ a.toNat < 0x0A0) → ¬ (0x200 ≤ a.toNat ∧ a.toNat < 0x200 + bytes.length) →
        c.load a = 0x00) ∧
      (∀ x, c.reg x = 0) ∧ c.i = 0 ∧ c.pc = 0x200 ∧ c.sp = 0 ∧ (∀ k : Fin 16, c.stack[k] = 0) ∧ c.delay = 0 ∧ c.sound = 0 ∧
      (∀ px py, c.pixel px py = false) ∧ (∀ k, c.key k = false) ∧ c.waitingForKey = false ∧ c.image = bytes ∧
      (∀ t : State, t.ch8.image = bytes → State.hostApply (.reset .chip8) t =
        { t with ch8 := { c with bells := t.ch8.bells, rngDraws := t.ch8.rngDraws }, hostError := none }))

/-- The host's events (rules R430, R340, R464; log entry 3). At a tick boundary a call is done at once, and a frame tick has its first turn
exactly as when the host has nothing to say; inside a tick no step looks at them. What `run`, `pause`, `stop` and the turn to the other
machine do (log entries 1, 10). A call that fails changes nothing but the recorded error (rule R456; log entries 9, 14): a load whose read
failed, and a reset with no image loaded; a turn with no image loaded raises `InvalidState` in the same way. A stopped or paused scheduler
runs nothing. -/
def Obligations.HostCallsBetweenTicks : Prop :=
  (∀ (s : State) (call : HostCall) (rest : List HostEvent), s.tickSteps = 0 → s.hostCalls = .call call :: rest →
    step s = .next (State.hostApply call { s with hostCalls := rest })) ∧
  (∀ (s : State) (rest : List HostEvent), s.tickSteps = 0 → s.hostCalls = .stepFrame :: rest →
    step s = onNext (step { s with hostCalls := [] }) (fun t => { t with hostCalls := rest })) ∧
  (∀ (s : State) (events : List HostEvent), s.tickSteps ≠ 0 →
    step { s with hostCalls := events } = onNext (step s) (fun t => { t with hostCalls := events })) ∧
  (∀ s : State, State.hostApply .run s = { s with running := true, paused := false, hostError := none } ∧
    State.hostApply .pause s = { s with paused := true, hostError := none } ∧
    State.hostApply .stop s = { s with running := false, hostError := none } ∧
    (∀ m, State.hostApply (.select m) s = { s with active := m, hostError := none })) ∧
  (∀ (s : State) (m : MachineId), State.hostApply (.loadFailed m) s = { s with hostError := some .ioFailure }) ∧
  (∀ s : State, s.gb.romLen = 0 → State.hostApply (.reset .gameBoy) s = { s with hostError := some .invalidState }) ∧
  (∀ s : State, s.active = .gameBoy → s.gb.romLen = 0 → (s.tickSteps ≠ 0 ∨ s.hostCalls = []) →
    step s = .next { s with hostError := some .invalidState }) ∧
  (∀ s : State, s.tickSteps = 0 → s.hostCalls = [] → (s.running = false ∨ s.paused = true) →
    (s.active = .gameBoy → s.gb.romLen ≠ 0) →
    step s = .next { s with tickReturned := some false, hostError := none })

/-- The joypad port and the input latch (rules R76, R420): a write keeps the two selector bits; a read gives them with the selected
halves of the latch, ANDed; a button is low while pressed. -/
def Obligations.JoypadPort : Prop :=
  (∀ (g : GameBoy) slot, g.memRead slot 0xFF00 =
    (g.cell 0xFF00 &&& 0x30) |||
      ((if (g.cell 0xFF00).getLsbD 4 then (0x0F : Byte) else g.buttons &&& 0x0F) &&&
        (if (g.cell 0xFF00).getLsbD 5 then (0x0F : Byte) else g.buttons >>> 4))) ∧
  (∀ (g : GameBoy) (v : Byte), Memory.wf busInit g.mem = true → (g.memWrite 0xFF00 v).cell 0xFF00 = v &&& 0x30) ∧
  (∀ (s : State) (index k : Fin 8) (pressed : Bool),
    (State.hostApply (.setButton index pressed) s).gb.buttons.getLsbD k.val =
      (if k = index then !pressed else s.gb.buttons.getLsbD k.val)) ∧
  (∀ (s : State) (index : Fin 8) (pressed : Bool),
    State.hostApply (.setButton index pressed) s =
      { s with gb := { s.gb with buttons := (State.hostApply (.setButton index pressed) s).gb.buttons }, hostError := none })

/-! ## Registers and operands -/

/-- The register file (rules R20, R21, R24): each register is its own, a pair is its two halves, and the low nibble of `F` is 0; and the
operand forms (rules R104, R107, R109, R149, R234): a register or the byte at `HL`, the four conditions, the high page, the signed
offset. -/
def Obligations.RegisterFileAndOperandForms : Prop :=
  ((∀ (g : GameBoy) (r r' : R8) (v : Byte), (g.setR8 r v).r8 r' = if r' = r then v else g.r8 r') ∧
   (∀ (g : GameBoy) (r : R8) (v : Byte),
     { g.setR8 r v with a := g.a, b := g.b, c := g.c, d := g.d, e := g.e, h := g.h, l := g.l } = g) ∧
   (∀ (g : GameBoy) (p p' : R16) (v : Word), (g.setR16 p v).r16 p' = if p' = p then v else g.r16 p') ∧
   (∀ (g : GameBoy) (p : R16) (v : Word),
     { g.setR16 p v with b := g.b, c := g.c, d := g.d, e := g.e, h := g.h, l := g.l, sp := g.sp } = g) ∧
   (∀ g : GameBoy, g.r16 .bc = g.b ++ g.c ∧ g.r16 .de = g.d ++ g.e ∧ g.r16 .hl = g.h ++ g.l ∧ g.r16 .sp = g.sp) ∧
   (∀ g : GameBoy, g.r16stk .bc = g.b ++ g.c ∧ g.r16stk .de = g.d ++ g.e ∧ g.r16stk .hl = g.h ++ g.l ∧
     g.r16stk .af = g.a ++ g.f.toByte) ∧
   (∀ (g : GameBoy) (p p' : R16Stk) (v : Word), (g.setR16stk p v).r16stk p' =
     if p' = p then (if p = .af then v &&& 0xFFF0 else v) else g.r16stk p') ∧
   (∀ (g : GameBoy) (p : R16Stk) (v : Word),
     { g.setR16stk p v with a := g.a, f := g.f, b := g.b, c := g.c, d := g.d, e := g.e, h := g.h, l := g.l } = g) ∧
   (∀ f : Flags, f.toByte &&& 0x0F = 0 ∧ f.toByte.getLsbD 7 = f.z ∧ f.toByte.getLsbD 6 = f.n ∧ f.toByte.getLsbD 5 = f.h ∧
     f.toByte.getLsbD 4 = f.c ∧ Flags.ofByte f.toByte = f) ∧
   (∀ v : Byte, (Flags.ofByte v).toByte = v &&& 0xF0)) ∧
  ((∀ (g : GameBoy) (r : R8), g.get (.reg r) = g.r8 r) ∧
   (∀ g : GameBoy, g.get .atHL = g.memRead (.data 0) (g.h ++ g.l)) ∧
   (∀ (g : GameBoy) (r : R8) (v : Byte), g.put (.reg r) v = g.setR8 r v) ∧
   (∀ (g : GameBoy) (v : Byte), g.put .atHL v = g.memWrite (g.h ++ g.l) v) ∧
   (∀ g : GameBoy, g.cond .nz = !g.f.z ∧ g.cond .z = g.f.z ∧ g.cond .nc = !g.f.c ∧ g.cond .c = g.f.c) ∧
   (∀ n : Byte, (highPage n).toNat = 0xFF00 + n.toNat) ∧
   (∀ e : Byte, (sext16 e).toInt = e.toInt))

/-! ## Memory -/

/-- What a read returns by the range of the address (rules R61, R63, R64, R70, R71, R73). A read past the end of the image is a draw
and is not stated. -/
def Obligations.ReadByAddressRange : Prop :=
  ∀ (g : GameBoy) (slot : ReadSlot) (addr : Word),
    (addr.toNat < 0x4000 → addr.toNat < g.romLen → g.memRead slot addr = g.imageByte addr.toNat) ∧
    (0x4000 ≤ addr.toNat → addr.toNat < 0x8000 → g.romBank.toNat * 0x4000 + (addr.toNat - 0x4000) < g.romLen →
      g.memRead slot addr = g.imageByte (g.romBank.toNat * 0x4000 + (addr.toNat - 0x4000))) ∧
    (0x8000 ≤ addr.toNat → addr.toNat < 0xA000 → g.memRead slot addr = g.cell addr.toNat) ∧
    (0xA000 ≤ addr.toNat → addr.toNat < 0xC000 →
      g.memRead slot addr = if g.ramEnabled then g.cell addr.toNat else 0xFF) ∧
    (0xC000 ≤ addr.toNat → addr.toNat < 0xE000 → g.memRead slot addr = g.cell addr.toNat) ∧
    (0xE000 ≤ addr.toNat → addr.toNat < 0xFE00 → g.memRead slot addr = g.cell (addr.toNat - 0x2000)) ∧
    (0xFE00 ≤ addr.toNat → addr.toNat < 0xFEA0 → g.memRead slot addr = g.cell addr.toNat) ∧
    (0xFEA0 ≤ addr.toNat → addr.toNat < 0xFF00 → g.memRead slot addr = 0xFF) ∧
    (0xFF00 < addr.toNat → g.memRead slot addr = g.cell addr.toNat)

/-- Plain storage reads back what was written (rules R69, R71, R72, R74, R77). A write changes no read outside the addresses it can
touch, and no register, image byte or hidden state at all (rule R62); one to 0x4000 to 0x7FFF changes nothing (rule R68, the spec's
decision D10). -/
def Obligations.WrittenBytesReadBackAndFrame : Prop :=
  (∀ (g : GameBoy) (addr : Word) (v : Byte) (slot : ReadSlot), Memory.wf busInit g.mem = true →
     (plainStorage addr = true → (g.memWrite addr v).memRead slot addr = v) ∧
     (regionOf addr = .eram → g.ramEnabled = true → (g.memWrite addr v).memRead slot addr = v)) ∧
  (∀ (g : GameBoy) (addr : Word) (v : Byte),
     (Memory.wf busInit g.mem = true →
       ∀ slot b, mayTouch addr b = false → (g.memWrite addr v).memRead slot b = g.memRead slot b) ∧
     { g.memWrite addr v with mem := g.mem, romBank := g.romBank, ramEnabled := g.ramEnabled } = g) ∧
  (∀ (g : GameBoy) (addr : Word) (v : Byte), 0x4000 ≤ addr.toNat → addr.toNat < 0x8000 → g.memWrite addr v = g)

/-- The bank-enable and bank-select latches (rules R66, R67), and the unusable range (rule R73). The gate of `eram` (rule R70): closed,
reads return 0xFF and writes are dropped; closing and opening it shows the same bytes. -/
def Obligations.BankLatchesAndRamGate : Prop :=
  (∀ (g : GameBoy) (addr : Word) (v : Byte),
     (addr.toNat < 0x2000 → g.memWrite addr v = { g with ramEnabled := decide (v.toNat % 16 = 0xA) }) ∧
     (0x2000 ≤ addr.toNat → addr.toNat < 0x4000 →
       g.memWrite addr v = { g with romBank := if v.toNat % 32 = 0 then 1 else BitVec.ofNat 5 v.toNat } ∧
         1 ≤ (g.memWrite addr v).romBank.toNat) ∧
     (0xFEA0 ≤ addr.toNat → addr.toNat < 0xFF00 → (∀ slot, g.memRead slot addr = 0xFF) ∧ g.memWrite addr v = g)) ∧
  (∀ (g : GameBoy) (addr : Word) (v : Byte) (slot : ReadSlot), 0xA000 ≤ addr.toNat → addr.toNat < 0xC000 →
     (g.ramEnabled = false → g.memRead slot addr = 0xFF ∧ g.memWrite addr v = g) ∧
     (g.ramEnabled = true → g.memRead slot addr = g.cell addr.toNat ∧
       g.memWrite addr v = g.setCell addr.toNat v ∧
       ((g.memWrite 0x0000 0x00).memWrite 0x0000 0x0A).memRead slot addr = g.memRead slot addr))

/-- `wram` and its echo (rule R71): storage; an access to the echo is the access 0x2000 lower, for reads and for writes; a write to the
last 512 bytes shows at no other address. -/
def Obligations.EchoIsWorkRam : Prop :=
  ∀ (g : GameBoy) (addr : Word) (v : Byte) (slot : ReadSlot),
    (0xC000 ≤ addr.toNat → addr.toNat < 0xE000 →
      g.memRead slot addr = g.cell addr.toNat ∧ g.memWrite addr v = g.setCell addr.toNat v) ∧
    (0xE000 ≤ addr.toNat → addr.toNat < 0xFE00 →
      g.memRead slot addr = g.memRead slot (addr - 0x2000) ∧ g.memWrite addr v = g.memWrite (addr - 0x2000) v) ∧
    (0xDE00 ≤ addr.toNat → addr.toNat < 0xE000 → Memory.wf busInit g.mem = true →
      ∀ b, b ≠ addr → (g.memWrite addr v).memRead slot b = g.memRead slot b)

/-- OAM DMA (rule R75, decision D12): the written byte is kept, and each `oam` byte is what a read of the source page gives at that
moment, through the memory map. Nothing else that is read changes. -/
def Obligations.OamDmaCopies : Prop :=
  ∀ (g : GameBoy) (v : Byte) (slot : ReadSlot), Memory.wf busInit g.mem = true →
    (g.memWrite 0xFF46 v).cell 0xFF46 = v ∧
    (∀ k, k < 160 → (g.memWrite 0xFF46 v).memRead slot (BitVec.ofNat 16 (0xFE00 + k)) =
      (g.setCell 0xFF46 v).memRead (.dma k) (BitVec.ofNat 16 (v.toNat * 0x100 + k))) ∧
    (∀ b, b ≠ 0xFF46 → regionOf b ≠ .oam → (g.memWrite 0xFF46 v).memRead slot b = g.memRead slot b)

/-! ## The PPU -/

/-- With `LCDC.7` clear the PPU does nothing (rule R413); otherwise cycles that do not complete a line only move the counter. The end of
a line: 456 T-states are taken off, a visible line is rendered, `LY` goes on modulo 154, and at 144 the frame is ready and the VBlank
request is set. -/
def Obligations.PpuAdvanceByLines : Prop :=
  (∀ (g : GameBoy) (n : Nat),
     (g.lcdc.getLsbD 7 = false → g.ppuAdvance n = g) ∧
     (g.lcdc.getLsbD 7 = true → g.scanlineCounter + n < 456 →
       g.ppuAdvance n = { g with scanlineCounter := g.scanlineCounter + n })) ∧
  (∀ (g : GameBoy) (n : Nat), Memory.wf busInit g.mem = true → g.lcdc.getLsbD 7 = true → 456 ≤ g.scanlineCounter + n →
     g.scanlineCounter + n < 912 →
       (g.ppuAdvance n).scanlineCounter = g.scanlineCounter + n - 456 ∧
       (g.ppuAdvance n).ly.toNat = (g.ly.toNat + 1) % 154 ∧
       ((g.ly.toNat + 1) % 154 = 144 → (g.ppuAdvance n).frameReady = true ∧ (g.ppuAdvance n).ifReg = g.ifReg ||| 0x01) ∧
       ((g.ly.toNat + 1) % 154 ≠ 144 → (g.ppuAdvance n).frameReady = g.frameReady ∧ (g.ppuAdvance n).ifReg = g.ifReg) ∧
       (g.ppuAdvance n).framebuffer =
         (if g.ly.toNat < 144 then (g.renderScanline g.ly.toNat).framebuffer else g.framebuffer) ∧
       (∀ k, k ≠ 0xFF44 → k ≠ 0xFF0F → (g.ppuAdvance n).cell k = g.cell k) ∧
       { g.ppuAdvance n with mem := g.mem, framebuffer := g.framebuffer, frameReady := g.frameReady,
                             scanlineCounter := g.scanlineCounter } = g)

/-- The PPU sees only the sum of the cycles it is handed (rule R413): two advances are one. -/
def Obligations.PpuAdvanceAddsUp : Prop :=
  ∀ (g : GameBoy) (m n : Nat), Memory.wf busInit g.mem = true →
    (g.ppuAdvance m).ppuAdvance n = g.ppuAdvance (m + n)

/-- A rendered line (rules R414, R415, R416): every column gets the palette's shade of its background pixel, or 0 with `LCDC.0` clear; every
other cell and everything else is unchanged. -/
def Obligations.ScanlinePixels : Prop :=
  ∀ (g : GameBoy) (line : Nat), line < 144 → Memory.wf pixelInit g.framebuffer = true →
    (∀ col, col < 160 → (g.renderScanline line).fbCell line col =
      (if g.lcdc.getLsbD 0 then
        let x := (col + g.scx.toNat) % 256
        let y := (line + g.scy.toNat) % 256
        let idx := g.cell ((if g.lcdc.getLsbD 3 then 0x9C00 else 0x9800) + y / 8 * 32 + x / 8)
        let tile : Int := if g.lcdc.getLsbD 4 then 0x8000 + idx.toNat * 16 else 0x9000 + idx.toInt * 16
        let b1 := g.cell (tile + 2 * (y % 8)).toNat
        let b2 := g.cell (tile + 2 * (y % 8) + 1).toNat
        let colour := 2 * (b2.getLsbD (7 - x % 8)).toNat + (b1.getLsbD (7 - x % 8)).toNat
        g.bgp.extractLsb' (2 * colour) 2
      else 0)) ∧
    (∀ line' col, col < 160 → line' ≠ line → (g.renderScanline line).fbCell line' col = g.fbCell line' col) ∧
    { g.renderScanline line with framebuffer := g.framebuffer } = g

/-! ## 8-bit loads -/

/-- `LD r,r'`, `LD r,n`, `LD r,(HL)` (rules R130 to R132); `LD (HL),r`, `LD (HL),n` (rules R133, R134), which store one byte at `HL`. -/
def Obligations.LoadsAndStoresAtHl : Prop :=
  (∀ s : State,
     (∀ dst src, runsStoringNothing (Instr.ldRR dst src) s
       { s with gb := { s.gb.setR8 dst (s.gb.r8 src) with cycles := 4 } }) ∧
     (∀ dst n, runsStoringNothing (Instr.ldRN dst n) s { s with gb := { s.gb.setR8 dst n with cycles := 8 } }) ∧
     (∀ dst, runsStoringNothing (Instr.ldRHL dst) s
       { s with gb := { s.gb.setR8 dst (s.gb.memRead (.data 0) s.gb.hl) with cycles := 8 } })) ∧
  (∀ s : State,
     (∀ src, runsStoring (Instr.ldHLR src) (mayTouch s.gb.hl) s
       { s with gb := { s.gb.memWrite s.gb.hl (s.gb.r8 src) with cycles := 8 } }) ∧
     (∀ n, runsStoring (.ld_atHL_n n) (mayTouch s.gb.hl) s { s with gb := { s.gb.memWrite s.gb.hl n with cycles := 12 } }))

/-- The loads of `A` (rules R135, R136, R139, R141, R143, R147, R148) and the stores of `A` (rules R137, R138, R140, R142, R144, R145,
R146): the byte at the effective address of rule R149; `(HL+)` and `(HL-)` then step `HL`. -/
def Obligations.AccumulatorLoadsAndStores : Prop :=
  (∀ s : State,
     runsStoringNothing .ld_A_atBC s { s with gb := { s.gb with a := s.gb.memRead (.data 0) s.gb.bc, cycles := 8 } } ∧
     runsStoringNothing .ld_A_atDE s { s with gb := { s.gb with a := s.gb.memRead (.data 0) s.gb.de, cycles := 8 } } ∧
     (∀ nn, runsStoringNothing (.ld_A_at_nn nn) s { s with gb := { s.gb with a := s.gb.memRead (.data 0) nn, cycles := 16 } }) ∧
     (∀ n, runsStoringNothing (.ldh_A_at_n n) s
       { s with gb := { s.gb with a := s.gb.memRead (.data 0) ((0xFF : Byte) ++ n), cycles := 12 } }) ∧
     runsStoringNothing .ld_A_atC s { s with gb := { s.gb with a := s.gb.memRead (.data 0) ((0xFF : Byte) ++ s.gb.c), cycles := 8 } } ∧
     runsStoringNothing .ld_A_atHLinc s
       { s with gb := { s.gb.setR16 .hl (s.gb.hl + 1) with a := s.gb.memRead (.data 0) s.gb.hl, cycles := 8 } } ∧
     runsStoringNothing .ld_A_atHLdec s
       { s with gb := { s.gb.setR16 .hl (s.gb.hl - 1) with a := s.gb.memRead (.data 0) s.gb.hl, cycles := 8 } }) ∧
  (∀ s : State,
     runsStoring .ld_atBC_A (mayTouch s.gb.bc) s { s with gb := { s.gb.memWrite s.gb.bc s.gb.a with cycles := 8 } } ∧
     runsStoring .ld_atDE_A (mayTouch s.gb.de) s { s with gb := { s.gb.memWrite s.gb.de s.gb.a with cycles := 8 } } ∧
     (∀ nn, runsStoring (.ld_at_nn_A nn) (mayTouch nn) s { s with gb := { s.gb.memWrite nn s.gb.a with cycles := 16 } }) ∧
     (∀ n, runsStoring (.ldh_at_n_A n) (mayTouch ((0xFF : Byte) ++ n)) s
       { s with gb := { s.gb.memWrite ((0xFF : Byte) ++ n) s.gb.a with cycles := 12 } }) ∧
     runsStoring .ld_atC_A (mayTouch ((0xFF : Byte) ++ s.gb.c)) s
       { s with gb := { s.gb.memWrite ((0xFF : Byte) ++ s.gb.c) s.gb.a with cycles := 8 } } ∧
     runsStoring .ld_atHLinc_A (mayTouch s.gb.hl) s
       { s with gb := { (s.gb.memWrite s.gb.hl s.gb.a).setR16 .hl (s.gb.hl + 1) with cycles := 8 } } ∧
     runsStoring .ld_atHLdec_A (mayTouch s.gb.hl) s
       { s with gb := { (s.gb.memWrite s.gb.hl s.gb.a).setR16 .hl (s.gb.hl - 1) with cycles := 8 } })

/-! ## 16-bit loads and the stack -/

/-- `LD rr,nn`, `LD SP,HL`, `LD HL,SP+e`, `LD (nn),SP` (rules R160 to R163). -/
def Obligations.Load16 : Prop :=
  ∀ s : State,
    (∀ p nn, runsStoringNothing (Instr.ldRRnn p nn) s { s with gb := { s.gb.setR16 p nn with cycles := 12 } }) ∧
    runsStoringNothing .ld_SP_HL s { s with gb := { s.gb with sp := s.gb.hl, cycles := 8 } } ∧
    (∀ e, runsStoringNothing (.ld_HL_SPe e) s { s with gb := { s.gb.setR16 .hl (s.gb.sp + e.signExtend 16) with
      f := { z := false, n := false, h := decide (s.gb.sp.toNat % 16 + e.toNat % 16 > 0x0F),
             c := decide (s.gb.sp.toNat % 256 + e.toNat > 0xFF) }, cycles := 12 } }) ∧
    (∀ nn, runsStoring (.ld_at_nn_SP nn) (mayTouchTwo nn) s
      { s with gb := { (s.gb.memWrite nn (lowByte s.gb.sp)).memWrite (nn + 1) (highByte s.gb.sp) with cycles := 20 } })

/-- `PUSH` and `POP` (rules R164, R165): the high byte goes to `SP - 1`, then the low byte to `SP - 2`; a pop takes the low byte at `SP`. -/
def Obligations.PushAndPop : Prop :=
  ∀ (s : State) (p : R16Stk),
    runsStoring (Instr.pushRR p) (mayTouchTwo (s.gb.sp - 2)) s
      { s with gb := { ({ ({ s.gb with sp := s.gb.sp - 1 } : GameBoy).memWrite (s.gb.sp - 1) (highByte (s.gb.r16stk p)) with
          sp := s.gb.sp - 2 } : GameBoy).memWrite (s.gb.sp - 2) (lowByte (s.gb.r16stk p)) with cycles := 16 } } ∧
    runsStoringNothing (Instr.popRR p) s
      { s with gb := { ({ s.gb with sp := s.gb.sp + 2 } : GameBoy).setR16stk p
          (s.gb.memRead (.data 1) (s.gb.sp + 1) ++ s.gb.memRead (.data 0) s.gb.sp) with cycles := 12 } }

/-- A push followed by a pop moves the pair's value to the popped pair (`AF` drops the low nibble of `F`) and restores `SP`, when the two
bytes of the stack lie in plain storage (rules R165, R166). What a push leaves there (rules R164, R166): the high byte at `SP - 1`, the low
byte at `SP - 2`, and `SP` two lower; so a `RET` after a `CALL` comes back to the byte after the `CALL`. -/
def Obligations.StackRoundTrips : Prop :=
  (∀ (s : State) (p q : R16Stk), Memory.wf busInit s.gb.mem = true → plainStorage (s.gb.sp - 1) = true →
     plainStorage (s.gb.sp - 2) = true → regionOf (s.gb.sp - 1) ≠ .dma → regionOf (s.gb.sp - 2) ≠ .dma →
     ∃ t u, exec (Instr.pushRR p) s = .next t ∧ exec (Instr.popRR q) t = .next u ∧
       u.gb.r16stk q = (if q = .af then s.gb.r16stk p &&& 0xFFF0 else s.gb.r16stk p) ∧ u.gb.sp = s.gb.sp) ∧
  (∀ (s : State) (nn : Word), Memory.wf busInit s.gb.mem = true → plainStorage (s.gb.sp - 1) = true →
     plainStorage (s.gb.sp - 2) = true → regionOf (s.gb.sp - 1) ≠ .dma → regionOf (s.gb.sp - 2) ≠ .dma →
     ∃ t u, exec (.call_nn nn) s = .next t ∧ t.gb.pc = nn ∧ t.gb.sp = s.gb.sp - 2 ∧
       (∀ slot, t.gb.memRead slot (s.gb.sp - 1) = highByte s.gb.pc ∧ t.gb.memRead slot (s.gb.sp - 2) = lowByte s.gb.pc) ∧
       exec .ret t = .next u ∧ u.gb.pc = s.gb.pc ∧ u.gb.sp = s.gb.sp)

/-! ## 8-bit arithmetic and logic -/

/-- The forms of the eight operations (rules R178 to R201): register, `(HL)` and immediate. -/
def Obligations.AluForms : Prop :=
  ∀ (s : State) (op : AluOp),
    (∀ r, runsStoringNothing (Instr.aluOp op (.reg r)) s
      { s with gb := { s.gb with a := (aluResult op s.gb.a (s.gb.r8 r) s.gb.f.c).1,
                                 f := (aluResult op s.gb.a (s.gb.r8 r) s.gb.f.c).2, cycles := 4 } }) ∧
    runsStoringNothing (Instr.aluOp op .atHL) s
      { s with gb := { s.gb with a := (aluResult op s.gb.a (s.gb.memRead (.data 0) s.gb.hl) s.gb.f.c).1,
                                 f := (aluResult op s.gb.a (s.gb.memRead (.data 0) s.gb.hl) s.gb.f.c).2, cycles := 8 } } ∧
    (∀ n, runsStoringNothing (Instr.aluImm op n) s
      { s with gb := { s.gb with a := (aluResult op s.gb.a n s.gb.f.c).1, f := (aluResult op s.gb.a n s.gb.f.c).2,
                                 cycles := 8 } })

/-- `ADD` and `ADC` (rules R170, R171), said of the exact sums: the result and C are the sum, the low nibbles and H are the nibbles'
sum, Z is a zero result, N is 0. `SUB`, `SBC` and `CP` (rules R172, R173, R177), said of the exact differences: C and H are the borrows,
N is 1, `CP` keeps `A`. -/
def Obligations.AddAndSubtractResults : Prop :=
  (∀ (op : AluOp) (a v : Byte) (c : Bool), op = .add ∨ op = .adc →
     let carryIn := if op = .adc then c.toNat else 0
     let r := aluResult op a v c
     r.1.toNat + 256 * r.2.c.toNat = a.toNat + v.toNat + carryIn ∧
     r.1.toNat % 16 + 16 * r.2.h.toNat = a.toNat % 16 + v.toNat % 16 + carryIn ∧
     (r.2.z = true ↔ r.1 = 0) ∧ r.2.n = false) ∧
  (∀ (op : AluOp) (a v : Byte) (c : Bool), op = .sub ∨ op = .sbc ∨ op = .cp →
     let borrowIn := if op = .sbc then c.toNat else 0
     let r := aluResult op a v c
     let d := if op = .cp then (sub8 a v).1 else r.1
     d.toNat + v.toNat + borrowIn = a.toNat + 256 * r.2.c.toNat ∧
     d.toNat % 16 + v.toNat % 16 + borrowIn = a.toNat % 16 + 16 * r.2.h.toNat ∧
     (r.2.z = true ↔ d = 0) ∧ r.2.n = true ∧ (op = .cp → r.1 = a ∧ (r.2.z = true ↔ a = v) ∧ (r.2.c = true ↔ a < v)))

/-- `AND`, `XOR`, `OR` bit by bit, and their flags (rules R174 to R176). -/
def Obligations.LogicResult : Prop :=
  ∀ (a v : Byte) (c : Bool),
    (∀ k, (aluResult .and a v c).1.getLsbD k = (a.getLsbD k && v.getLsbD k)) ∧
    (∀ k, (aluResult .xor a v c).1.getLsbD k = (a.getLsbD k ^^ v.getLsbD k)) ∧
    (∀ k, (aluResult .or a v c).1.getLsbD k = (a.getLsbD k || v.getLsbD k)) ∧
    (∀ op, op = .and ∨ op = .xor ∨ op = .or →
      (aluResult op a v c).2 =
        { z := decide ((aluResult op a v c).1 = 0), n := false, h := decide (op = .and), c := false })

/-- `INC` and `DEC` of a byte (rules R202 to R205): C is kept. -/
def Obligations.IncAndDecByte : Prop :=
  ∀ s : State,
    (∀ r, runsStoringNothing (Instr.incOp (.reg r)) s
      { s with gb := { s.gb.setR8 r (s.gb.r8 r + 1) with
        f := { z := decide (s.gb.r8 r = 0xFF), n := false, h := decide ((s.gb.r8 r).toNat % 16 = 0xF), c := s.gb.f.c },
        cycles := 4 } }) ∧
    (∀ r, runsStoringNothing (Instr.decOp (.reg r)) s
      { s with gb := { s.gb.setR8 r (s.gb.r8 r - 1) with
        f := { z := decide (s.gb.r8 r = 0x01), n := true, h := decide ((s.gb.r8 r).toNat % 16 = 0x0), c := s.gb.f.c },
        cycles := 4 } }) ∧
    (∀ v, s.gb.memRead (.data 0) s.gb.hl = v →
      runsStoring .inc_atHL (mayTouch s.gb.hl) s
        { s with gb := { s.gb.memWrite s.gb.hl (v + 1) with
          f := { z := decide (v = 0xFF), n := false, h := decide (v.toNat % 16 = 0xF), c := s.gb.f.c }, cycles := 12 } } ∧
      runsStoring .dec_atHL (mayTouch s.gb.hl) s
        { s with gb := { s.gb.memWrite s.gb.hl (v - 1) with
          f := { z := decide (v = 0x01), n := true, h := decide (v.toNat % 16 = 0x0), c := s.gb.f.c }, cycles := 12 } })

/-- `DAA`, `CPL`, `SCF`, `CCF` (rules R206 to R209). -/
def Obligations.AccumulatorAndFlagInstructions : Prop :=
  ∀ s : State,
    (let addAdjust : Nat := (if s.gb.f.h = true ∨ s.gb.a.toNat % 16 > 9 then 0x06 else 0) +
        (if s.gb.f.c = true ∨ s.gb.a.toNat > 0x99 then 0x60 else 0)
     let subAdjust : Nat := (if s.gb.f.h = true then 0x06 else 0) + (if s.gb.f.c = true then 0x60 else 0)
     let r : Byte := if s.gb.f.n then s.gb.a - BitVec.ofNat 8 subAdjust else s.gb.a + BitVec.ofNat 8 addAdjust
     runsStoringNothing .daa s { s with gb := { s.gb with
       a := r,
       f := { z := decide (r = 0), n := s.gb.f.n, h := false,
              c := s.gb.f.c || (!s.gb.f.n && decide (s.gb.a.toNat > 0x99)) }, cycles := 4 } }) ∧
    runsStoringNothing .cpl s
      { s with gb := { s.gb with a := ~~~ s.gb.a, f := { s.gb.f with n := true, h := true }, cycles := 4 } } ∧
    runsStoringNothing .scf s
      { s with gb := { s.gb with f := { z := s.gb.f.z, n := false, h := false, c := true }, cycles := 4 } } ∧
    runsStoringNothing .ccf s
      { s with gb := { s.gb with f := { z := s.gb.f.z, n := false, h := false, c := !s.gb.f.c }, cycles := 4 } }

/-- Packed BCD arithmetic is one of `ADD ADC SUB SBC` followed by `DAA` (rules R206, R210): on operands whose digits are decimal the
result is the decimal sum or difference modulo 100, and C its carry or borrow. -/
def Obligations.DaaGivesDecimalResults : Prop :=
  ∀ (a v : Byte) (c : Bool), isBcd a = true → isBcd v = true →
    (∀ op, op = .add ∨ op = .adc →
      let carryIn := if op = .adc then c.toNat else 0
      let r := daa8 (aluResult op a v c).1 (aluResult op a v c).2
      isBcd r.1 = true ∧ bcdValue r.1 + 100 * r.2.c.toNat = bcdValue a + bcdValue v + carryIn) ∧
    (∀ op, op = .sub ∨ op = .sbc →
      let borrowIn := if op = .sbc then c.toNat else 0
      let r := daa8 (aluResult op a v c).1 (aluResult op a v c).2
      isBcd r.1 = true ∧ bcdValue r.1 + bcdValue v + borrowIn = bcdValue a + 100 * r.2.c.toNat)

/-! ## 16-bit arithmetic -/

/-- `ADD HL,rr`, `INC rr`, `DEC rr`, `ADD SP,e` (rules R220 to R223). -/
def Obligations.Arithmetic16 : Prop :=
  ∀ s : State,
    (∀ p, runsStoringNothing (Instr.addHLrr p) s { s with gb := { s.gb.setR16 .hl (s.gb.hl + s.gb.r16 p) with
      f := { z := s.gb.f.z, n := false, h := decide (s.gb.hl.toNat % 4096 + (s.gb.r16 p).toNat % 4096 > 0x0FFF),
             c := decide (s.gb.hl.toNat + (s.gb.r16 p).toNat > 0xFFFF) }, cycles := 8 } }) ∧
    (∀ p, runsStoringNothing (Instr.incRR p) s { s with gb := { s.gb.setR16 p (s.gb.r16 p + 1) with cycles := 8 } }) ∧
    (∀ p, runsStoringNothing (Instr.decRR p) s { s with gb := { s.gb.setR16 p (s.gb.r16 p - 1) with cycles := 8 } }) ∧
    (∀ e, runsStoringNothing (.add_SP_e e) s { s with gb := { s.gb with
      sp := s.gb.sp + e.signExtend 16,
      f := { z := false, n := false, h := decide (s.gb.sp.toNat % 16 + e.toNat % 16 > 0x0F),
             c := decide (s.gb.sp.toNat % 256 + e.toNat > 0xFF) }, cycles := 16 } })

/-! ## Rotates, shifts and bits -/

/-- The forms of the rotates and shifts (rules R230 to R242): `RLCA`, `RRCA`, `RLA`, `RRA` with Z forced to 0, the CB page on a register
and on `(HL)` with Z from the result. -/
def Obligations.RotateAndShiftForms : Prop :=
  ∀ s : State,
    (∀ p ∈ [(Instr.rlca, ShiftOp.rlc), (.rrca, .rrc), (.rla, .rl), (.rra, .rr)],
      runsStoringNothing p.1 s { s with gb := { s.gb with
        a := (shiftResult p.2 s.gb.a s.gb.f.c).1,
        f := { z := false, n := false, h := false, c := (shiftResult p.2 s.gb.a s.gb.f.c).2 }, cycles := 4 } }) ∧
    (∀ op r, runsStoringNothing (Instr.shiftOp op (.reg r)) s
      { s with gb := { s.gb.setR8 r (shiftResult op (s.gb.r8 r) s.gb.f.c).1 with
        f := { z := decide ((shiftResult op (s.gb.r8 r) s.gb.f.c).1 = 0), n := false, h := false,
               c := (shiftResult op (s.gb.r8 r) s.gb.f.c).2 }, cycles := 8 } }) ∧
    (∀ op v, s.gb.memRead (.data 0) s.gb.hl = v → runsStoring (Instr.shiftOp op .atHL) (mayTouch s.gb.hl) s
      { s with gb := { s.gb.memWrite s.gb.hl (shiftResult op v s.gb.f.c).1 with
        f := { z := decide ((shiftResult op v s.gb.f.c).1 = 0), n := false, h := false, c := (shiftResult op v s.gb.f.c).2 },
        cycles := 16 } })

/-- What the eight rotates and shifts do to each bit, and the bit they put in C (rules R235 to R242). -/
def Obligations.RotateAndShiftBits : Prop :=
  ∀ (v : Byte) (c : Bool) (k : Nat), k < 8 →
    ((shiftResult .rlc v c).1.getLsbD k = v.getLsbD ((k + 7) % 8) ∧ (shiftResult .rlc v c).2 = v.getLsbD 7) ∧
    ((shiftResult .rrc v c).1.getLsbD k = v.getLsbD ((k + 1) % 8) ∧ (shiftResult .rrc v c).2 = v.getLsbD 0) ∧
    ((shiftResult .rl v c).1.getLsbD k = (if k = 0 then c else v.getLsbD (k - 1)) ∧
      (shiftResult .rl v c).2 = v.getLsbD 7) ∧
    ((shiftResult .rr v c).1.getLsbD k = (if k = 7 then c else v.getLsbD (k + 1)) ∧
      (shiftResult .rr v c).2 = v.getLsbD 0) ∧
    ((shiftResult .sla v c).1.getLsbD k = (if k = 0 then false else v.getLsbD (k - 1)) ∧
      (shiftResult .sla v c).2 = v.getLsbD 7) ∧
    ((shiftResult .sra v c).1.getLsbD k = v.getLsbD (if k = 7 then 7 else k + 1) ∧
      (shiftResult .sra v c).2 = v.getLsbD 0) ∧
    ((shiftResult .swap v c).1.getLsbD k = v.getLsbD ((k + 4) % 8) ∧ (shiftResult .swap v c).2 = false) ∧
    ((shiftResult .srl v c).1.getLsbD k = (if k = 7 then false else v.getLsbD (k + 1)) ∧
      (shiftResult .srl v c).2 = v.getLsbD 0)

/-- `BIT`, `RES`, `SET` on a register and on `(HL)` (rules R250 to R255): `r` is the byte whose bit `b` alone is cleared, or set. -/
def Obligations.BitInstructions : Prop :=
  ∀ (s : State) (b : Fin 8),
    (∀ r, runsStoringNothing (Instr.bitOp b (.reg r)) s { s with gb := { s.gb with
      f := { z := !(s.gb.r8 r).getLsbD b.val, n := false, h := true, c := s.gb.f.c }, cycles := 8 } }) ∧
    runsStoringNothing (Instr.bitOp b .atHL) s { s with gb := { s.gb with
      f := { z := !(s.gb.memRead (.data 0) s.gb.hl).getLsbD b.val, n := false, h := true, c := s.gb.f.c }, cycles := 12 } } ∧
    (∀ r w, (∀ k, k < 8 → w.getLsbD k = (decide (k ≠ b.val) && (s.gb.r8 r).getLsbD k)) →
      runsStoringNothing (Instr.resOp b (.reg r)) s { s with gb := { s.gb.setR8 r w with cycles := 8 } }) ∧
    (∀ r w, (∀ k, k < 8 → w.getLsbD k = (decide (k = b.val) || (s.gb.r8 r).getLsbD k)) →
      runsStoringNothing (Instr.setOp b (.reg r)) s { s with gb := { s.gb.setR8 r w with cycles := 8 } }) ∧
    (∀ w, (∀ k, k < 8 → w.getLsbD k = (decide (k ≠ b.val) && (s.gb.memRead (.data 0) s.gb.hl).getLsbD k)) →
      runsStoring (Instr.resOp b .atHL) (mayTouch s.gb.hl) s
        { s with gb := { s.gb.memWrite s.gb.hl w with cycles := 16 } }) ∧
    (∀ w, (∀ k, k < 8 → w.getLsbD k = (decide (k = b.val) || (s.gb.memRead (.data 0) s.gb.hl).getLsbD k)) →
      runsStoring (Instr.setOp b .atHL) (mayTouch s.gb.hl) s
        { s with gb := { s.gb.memWrite s.gb.hl w with cycles := 16 } })

/-! ## Control transfer and system -/

/-- The jumps (rules R260 to R264), with `PC` past the instruction when it runs, and the returns (rules R267 to R269); `RETI` sets `ime` at
once. -/
def Obligations.JumpsAndReturns : Prop :=
  (∀ s : State,
     (∀ nn, runsStoringNothing (.jp_nn nn) s { s with gb := { s.gb with pc := nn, cycles := 16 } }) ∧
     (∀ cc nn, runsStoringNothing (Instr.jpCC cc nn) s
       { s with gb := { s.gb with pc := if s.gb.cond cc then nn else s.gb.pc,
                                  cycles := if s.gb.cond cc then 16 else 12 } }) ∧
     runsStoringNothing .jp_HL s { s with gb := { s.gb with pc := s.gb.hl, cycles := 4 } } ∧
     (∀ e, runsStoringNothing (.jr_e e) s { s with gb := { s.gb with pc := s.gb.pc + e.signExtend 16, cycles := 12 } }) ∧
     (∀ cc e, runsStoringNothing (Instr.jrCC cc e) s
       { s with gb := { s.gb with pc := if s.gb.cond cc then s.gb.pc + e.signExtend 16 else s.gb.pc,
                                  cycles := if s.gb.cond cc then 12 else 8 } })) ∧
  (∀ (s : State) (target : Word), s.gb.memRead (.data 1) (s.gb.sp + 1) ++ s.gb.memRead (.data 0) s.gb.sp = target →
     runsStoringNothing .ret s { s with gb := { s.gb with pc := target, sp := s.gb.sp + 2, cycles := 16 } } ∧
     (∀ cc, s.gb.cond cc = true → runsStoringNothing (Instr.retCC cc) s
       { s with gb := { s.gb with pc := target, sp := s.gb.sp + 2, cycles := 20 } }) ∧
     (∀ cc, s.gb.cond cc = false → runsStoringNothing (Instr.retCC cc) s { s with gb := { s.gb with cycles := 8 } }) ∧
     runsStoringNothing .reti s { s with gb := { s.gb with pc := target, sp := s.gb.sp + 2, ime := true, cycles := 16 } })

/-- The calls and restarts (rules R265, R266, R270): the push of rule R164 with the address after the instruction. -/
def Obligations.CallsAndRestarts : Prop :=
  ∀ s : State,
    (∀ nn, runsStoring (.call_nn nn) (mayTouchTwo (s.gb.sp - 2)) s
      { s with gb := { s.gb.push16 s.gb.pc with pc := nn, cycles := 24 } }) ∧
    (∀ cc nn, s.gb.cond cc = true → runsStoring (Instr.callCC cc nn) (mayTouchTwo (s.gb.sp - 2)) s
      { s with gb := { s.gb.push16 s.gb.pc with pc := nn, cycles := 24 } }) ∧
    (∀ cc nn, s.gb.cond cc = false → runsStoringNothing (Instr.callCC cc nn) s
      { s with gb := { s.gb with cycles := 12 } }) ∧
    (∀ t : Fin 8, runsStoring (Instr.rstT t) (mayTouchTwo (s.gb.sp - 2)) s
      { s with gb := { s.gb.push16 s.gb.pc with pc := BitVec.ofNat 16 (8 * t.val), cycles := 16 } })

/-- `NOP`, `STOP`, `HALT`, `DI`, `EI`, and the prefix byte (rules R280 to R285). The table's row of the prefix by itself fetches the second
byte and runs that byte's instruction (log entry 15). -/
def Obligations.SystemInstructions : Prop :=
  ∀ s : State,
    runsStoringNothing .nop s { s with gb := { s.gb with cycles := 4 } } ∧
    runsStoringNothing .stop s { s with gb := { s.gb with cycles := 4 } } ∧
    runsStoringNothing .halt s { s with gb := { s.gb with halted := true, cycles := 4 } } ∧
    runsStoringNothing .di s { s with gb := { s.gb with ime := false, cycles := 4 } } ∧
    runsStoringNothing .ei s { s with gb := { s.gb with ime := true, cycles := 4 } } ∧
    (∃ t, exec .prefixCb s = .next t) ∧
    (∀ (op2 : Byte) (i : Instr), s.gb.memRead (.fetch 1) s.gb.pc = op2 → decode .gameBoy [0xCB, op2] = .ok (i, []) →
      exec .prefixCb s = exec i { s with gb := { s.gb with pc := s.gb.pc + 1 } })

/-! ## CHIP-8 -/

/-- The CHIP-8 instructions that write one register, `I` or a timer (rules R305, R312 to R317, R324, R326, R330, R332 to R335).
Of the random byte, a free value (log entry 8), it says only that it comes next in the stream and is masked. -/
def Obligations.Chip8RegisterInstructions : Prop :=
  ∀ (s : State) (x y : Nibble) (nn : Byte) (nnn : Addr12),
    exec .ch8_cls s = .next { s with ch8 := { s.ch8 with gfx := Vector.replicate 32 0 } } ∧
    exec (.ch8_ld_Vx_nn x nn) s = .next { s with ch8 := { s.ch8 with v := s.ch8.v.set x.toNat nn x.isLt } } ∧
    exec (.ch8_add_Vx_nn x nn) s =
      .next { s with ch8 := { s.ch8 with v := s.ch8.v.set x.toNat (s.ch8.reg x + nn) x.isLt } } ∧
    exec (.ch8_ld_Vx_Vy x y) s = .next { s with ch8 := { s.ch8 with v := s.ch8.v.set x.toNat (s.ch8.reg y) x.isLt } } ∧
    exec (.ch8_or_Vx_Vy x y) s =
      .next { s with ch8 := { s.ch8 with v := s.ch8.v.set x.toNat (s.ch8.reg x ||| s.ch8.reg y) x.isLt } } ∧
    exec (.ch8_and_Vx_Vy x y) s =
      .next { s with ch8 := { s.ch8 with v := s.ch8.v.set x.toNat (s.ch8.reg x &&& s.ch8.reg y) x.isLt } } ∧
    exec (.ch8_xor_Vx_Vy x y) s =
      .next { s with ch8 := { s.ch8 with v := s.ch8.v.set x.toNat (s.ch8.reg x ^^^ s.ch8.reg y) x.isLt } } ∧
    exec (.ch8_ld_I_nnn nnn) s = .next { s with ch8 := { s.ch8 with i := nnn } } ∧
    exec (.ch8_ld_Vx_DT x) s = .next { s with ch8 := { s.ch8 with v := s.ch8.v.set x.toNat s.ch8.delay x.isLt } } ∧
    exec (.ch8_ld_DT_Vx x) s = .next { s with ch8 := { s.ch8 with delay := s.ch8.reg x } } ∧
    exec (.ch8_ld_ST_Vx x) s = .next { s with ch8 := { s.ch8 with sound := s.ch8.reg x } } ∧
    exec (.ch8_add_I_Vx x) s =
      .next { s with ch8 := { s.ch8 with i := BitVec.ofNat 12 (s.ch8.i.toNat + (s.ch8.reg x).toNat) } } ∧
    exec (.ch8_ld_F_Vx x) s =
      .next { s with ch8 := { s.ch8 with i := BitVec.ofNat 12 (0x050 + 5 * ((s.ch8.reg x).toNat % 16)) } } ∧
    exec (.ch8_rnd_Vx_nn x nn) s = .next { s with ch8 := { s.ch8 with
      v := s.ch8.v.set x.toNat (Config.ch8Rng s.ch8.rngDraws &&& nn) x.isLt, rngDraws := s.ch8.rngDraws + 1 } } ∧
    (∀ t, exec (.ch8_rnd_Vx_nn x nn) s = .next t → t.ch8.reg x &&& ~~~ nn = 0)

/-- The CHIP-8 jumps and skips (rules R304, R307, R309 to R311, R323, R325, R328, R329): a skip is 2 bytes and `pc` is 12 bits. `LD Vx,K`
puts `pc` back on itself and waits (rule R331). -/
def Obligations.Chip8JumpsAndSkips : Prop :=
  ∀ (s : State) (x y : Nibble) (nn : Byte) (nnn : Addr12),
    let skip (test : Bool) : Host.Outcome State Fault Refusal :=
      .next { s with ch8 := { s.ch8 with pc := if test then s.ch8.pc + 2 else s.ch8.pc } }
    exec (.ch8_sys_nnn nnn) s = .next s ∧
    exec (.ch8_jp_nnn nnn) s = .next { s with ch8 := { s.ch8 with pc := nnn } } ∧
    exec (.ch8_ld_Vx_K x) s = .next { s with ch8 := { s.ch8 with pc := s.ch8.pc - 2, waitingForKey := true, waitReg := x } } ∧
    exec (.ch8_jp_V0_nnn nnn) s =
      .next { s with ch8 := { s.ch8 with pc := BitVec.ofNat 12 (nnn.toNat + (s.ch8.reg 0).toNat) } } ∧
    exec (.ch8_se_Vx_nn x nn) s = skip (decide (s.ch8.reg x = nn)) ∧
    exec (.ch8_sne_Vx_nn x nn) s = skip (decide (s.ch8.reg x ≠ nn)) ∧
    exec (.ch8_se_Vx_Vy x y) s = skip (decide (s.ch8.reg x = s.ch8.reg y)) ∧
    exec (.ch8_sne_Vx_Vy x y) s = skip (decide (s.ch8.reg x ≠ s.ch8.reg y)) ∧
    exec (.ch8_skp_Vx x) s = skip (s.ch8.key (BitVec.ofNat 4 (s.ch8.reg x).toNat)) ∧
    exec (.ch8_sknp_Vx x) s = skip (!s.ch8.key (BitVec.ofNat 4 (s.ch8.reg x).toNat))

/-- `CALL` and `RET` (rules R306, R308): on overflow and underflow nothing at all; otherwise the entry at `sp`, and a return after a call
comes back with the stack pointer as it was. -/
def Obligations.Chip8CallAndReturn : Prop :=
  ∀ (s : State) (nnn : Addr12),
    (s.ch8.sp.val = 16 → exec (.ch8_call_nnn nnn) s = .next s) ∧
    (s.ch8.sp.val = 0 → exec .ch8_ret s = .next s) ∧
    (∀ k (h : k < 16) (h' : k + 1 < 17), s.ch8.sp.val = k → exec (.ch8_call_nnn nnn) s =
      .next { s with ch8 := { s.ch8 with stack := s.ch8.stack.set k s.ch8.pc h, sp := ⟨k + 1, h'⟩, pc := nnn } }) ∧
    (∀ k (h : k < 16) (h' : k < 17), s.ch8.sp.val = k + 1 → exec .ch8_ret s =
      .next { s with ch8 := { s.ch8 with sp := ⟨k, h'⟩, pc := s.ch8.stack[k] } }) ∧
    (s.ch8.sp.val < 16 → ∃ t u, exec (.ch8_call_nnn nnn) s = .next t ∧ t.ch8.pc = nnn ∧ exec .ch8_ret t = .next u ∧
      u.ch8.pc = s.ch8.pc ∧ u.ch8.sp = s.ch8.sp)

/-- The CHIP-8 arithmetic with a flag (rules R318 to R322): `VF` is written last, so with `x` 15 the flag remains; any other register
but `V[x]` and `VF` is unchanged, and so is everything else. -/
def Obligations.Chip8FlagArithmetic : Prop :=
  ∀ (s : State) (x y : Nibble) (i : Instr) (value flag : Nat),
    ((i = .ch8_add_Vx_Vy x y ∧ value = ((s.ch8.reg x).toNat + (s.ch8.reg y).toNat) % 256 ∧
        flag = ((s.ch8.reg x).toNat + (s.ch8.reg y).toNat) / 256) ∨
      (i = .ch8_sub_Vx_Vy x y ∧ value = ((s.ch8.reg x).toNat + 256 - (s.ch8.reg y).toNat) % 256 ∧
        flag = if (s.ch8.reg y).toNat ≤ (s.ch8.reg x).toNat then 1 else 0) ∨
      (i = .ch8_subn_Vx_Vy x y ∧ value = ((s.ch8.reg y).toNat + 256 - (s.ch8.reg x).toNat) % 256 ∧
        flag = if (s.ch8.reg x).toNat ≤ (s.ch8.reg y).toNat then 1 else 0) ∨
      (i = .ch8_shr_Vx_Vy x y ∧ value = (s.ch8.reg y).toNat / 2 ∧ flag = (s.ch8.reg y).toNat % 2) ∨
      (i = .ch8_shl_Vx_Vy x y ∧ value = 2 * (s.ch8.reg y).toNat % 256 ∧ flag = (s.ch8.reg y).toNat / 128)) →
    ∃ c, exec i s = .next { s with ch8 := c } ∧ (c.reg 0xF).toNat = flag ∧ (x ≠ 0xF → (c.reg x).toNat = value) ∧
      (∀ k, k ≠ x → k ≠ 0xF → c.reg k = s.ch8.reg k) ∧ { c with v := s.ch8.v } = s.ch8

/-- `DRW` (rule R327): every pixel is XORed with the sprite's bit on it, clipped at the right and the bottom; `VF` is 1 exactly when a
set pixel was unset; no other register and nothing else changes. -/
def Obligations.Chip8Draw : Prop :=
  ∀ (s : State) (x y n : Nibble), ∃ c, exec (.ch8_drw_Vx_Vy_n x y n) s = .next { s with ch8 := c } ∧
    (∀ px py, px < 64 → py < 32 → c.pixel px py = (s.ch8.pixel px py ^^ s.ch8.spriteBit x y n px py)) ∧
    (c.reg 0xF = 1 ∨ c.reg 0xF = 0) ∧
    (c.reg 0xF = 1 ↔ ∃ px py, px < 64 ∧ py < 32 ∧ s.ch8.pixel px py = true ∧ s.ch8.spriteBit x y n px py = true) ∧
    (∀ k, k ≠ 0xF → c.reg k = s.ch8.reg k) ∧ { c with v := s.ch8.v, gfx := s.ch8.gfx } = s.ch8

/-- Drawing the same sprite twice at the same coordinates restores the display (rule R327). The coordinates are the same unless the flag
written to `VF` is one of them. -/
def Obligations.Chip8DrawTwiceRestores : Prop :=
  ∀ (s : State) (x y n : Nibble), ∃ t, exec (.ch8_drw_Vx_Vy_n x y n) s = .next t ∧
    (t.ch8.reg x = s.ch8.reg x → t.ch8.reg y = s.ch8.reg y →
      ∃ u, exec (.ch8_drw_Vx_Vy_n x y n) t = .next u ∧ u.ch8.gfx = s.ch8.gfx)

/-- `LD B,Vx` (rule R336): three decimal digits at `I`, `I + 1`, `I + 2`, modulo 4096; nothing else changes. `LD [I],Vx` and `LD Vx,[I]`
(rules R337, R338): `V[0]` to `V[x]` at `I` and on, modulo 4096, and `I` is `x + 1` higher. -/
def Obligations.Chip8MemoryTransfers : Prop :=
  (∀ (s : State) (x : Nibble), ∃ c, exec (.ch8_ld_B_Vx x) s = .next { s with ch8 := c } ∧
     { c with memory := s.ch8.memory } = s.ch8 ∧
     (Memory.wf ch8Init s.ch8.memory = true →
       (c.load s.ch8.i).toNat = (s.ch8.reg x).toNat / 100 ∧ (c.load (s.ch8.i + 1)).toNat = (s.ch8.reg x).toNat / 10 % 10 ∧
       (c.load (s.ch8.i + 2)).toNat = (s.ch8.reg x).toNat % 10 ∧
       (∀ a, a ≠ s.ch8.i → a ≠ s.ch8.i + 1 → a ≠ s.ch8.i + 2 → c.load a = s.ch8.load a))) ∧
  (∀ (s : State) (x : Nibble),
     (∃ c, exec (.ch8_ld_atI_Vx x) s = .next { s with ch8 := c } ∧
       c.i = BitVec.ofNat 12 (s.ch8.i.toNat + x.toNat + 1) ∧ { c with memory := s.ch8.memory, i := s.ch8.i } = s.ch8 ∧
       (Memory.wf ch8Init s.ch8.memory = true →
         (∀ k : Nibble, k ≤ x → c.load (s.ch8.i + k.setWidth 12) = s.ch8.reg k) ∧
         (∀ a, (∀ k : Nibble, k ≤ x → a ≠ s.ch8.i + k.setWidth 12) → c.load a = s.ch8.load a))) ∧
     (∃ c, exec (.ch8_ld_Vx_atI x) s = .next { s with ch8 := c } ∧
       c.i = BitVec.ofNat 12 (s.ch8.i.toNat + x.toNat + 1) ∧ { c with v := s.ch8.v, i := s.ch8.i } = s.ch8 ∧
       (∀ k : Nibble, k ≤ x → c.reg k = s.ch8.load (s.ch8.i + k.setWidth 12)) ∧
       (∀ k : Nibble, x < k → c.reg k = s.ch8.reg k)))

/-- `LD Vx,K` and the key press that ends the wait (rules R302, R331, R343): `pc` stays on the instruction, no step retires anything,
only the edge of a press ends the wait, writes the key's number and goes on. The timers (rules R340, R341): the last turn of a batch
counts them down, waiting for a key or not, and no earlier turn does; a batch of 0 has a turn for them alone (log entry 6); the bell, of
which the model keeps a count (log entry 14), is cued when the sound timer is at 1. The turns are the model's steps (log entry 2), and the
record of what a tick returned is its own too (log entry 14). -/
def Obligations.Chip8KeyWaitAndTimers : Prop :=
  ((∀ (s : State) (x : Nibble), exec (.ch8_ld_Vx_K x) s =
     .next { s with ch8 := { s.ch8 with pc := s.ch8.pc - 2, waitingForKey := true, waitReg := x } }) ∧
   (∀ s : State, s.ch8.waitingForKey = true → ch8Step s = .next s) ∧
   (∀ (s : State) (k : Nibble) (pressed : Bool), ∃ c, State.hostApply (.setKey k pressed) s = { s with ch8 := c, hostError := none } ∧
     (∀ j, c.key j = if j = k then pressed else s.ch8.key j) ∧
     (¬ (pressed = true ∧ s.ch8.key k = false ∧ s.ch8.waitingForKey = true) → { c with keys := s.ch8.keys } = s.ch8) ∧
     (pressed = true → s.ch8.key k = false → s.ch8.waitingForKey = true →
       c.waitingForKey = false ∧ c.pc = s.ch8.pc + 2 ∧ (c.reg s.ch8.waitReg).toNat = k.toNat ∧
       (∀ j, j ≠ s.ch8.waitReg → c.reg j = s.ch8.reg j) ∧
       { c with keys := s.ch8.keys, v := s.ch8.v, pc := s.ch8.pc, waitingForKey := true } = s.ch8))) ∧
  ((∀ c : Chip8, (timersTick c).delay.toNat = c.delay.toNat - 1 ∧ (timersTick c).sound.toNat = c.sound.toNat - 1 ∧
     (timersTick c).bells = (if c.sound = 1 then c.bells + 1 else c.bells) ∧
     { timersTick c with delay := c.delay, sound := c.sound, bells := c.bells } = c) ∧
   (∀ s : State, s.turnOf .chip8 → s.tickSteps < s.cfg.ch8Batch → ∃ t, ch8Step (ch8TurnStart s) = .next t ∧
     step s = .next (if s.tickSteps + 1 < s.cfg.ch8Batch then { t with tickSteps := s.tickSteps + 1 }
       else { t with ch8 := timersTick t.ch8, tickSteps := 0, tickReturned := some true })) ∧
   (∀ s : State, s.turnOf .chip8 → s.cfg.ch8Batch ≤ s.tickSteps →
     step s = .next { ch8TurnStart s with ch8 := timersTick s.ch8, tickSteps := 0, tickReturned := some true }) ∧
   (∀ s : State, ch8TurnStart s = if s.tickSteps = 0 then { s with hostError := none } else s))
end

