-- ==== Sys2Proof/Laws/Memory.lean ====
section
/-! SUPPORT. The laws of the canonical store: what a read gives after a write, that every operation keeps the canonical form, and
that canonical stores with the same reads are equal. -/

namespace Sys2Proof.Machine

variable {α : Type} [DecidableEq α] {init : Nat → α}

theorem Memory.wfFrom_mono {m : Memory α} {lo lo' : Nat} (h : lo' ≤ lo) (hw : Memory.wfFrom init lo m = true) :
    Memory.wfFrom init lo' m = true := by
  cases m with
  | nil => rfl
  | cons c rest =>
    simp only [Memory.wfFrom, Bool.and_eq_true, decide_eq_true_eq] at hw ⊢
    exact ⟨⟨by omega, hw.1.2⟩, hw.2⟩

theorem Memory.read_below {m : Memory α} {lo k : Nat} (hw : Memory.wfFrom init lo m = true) (hk : k < lo) :
    Memory.read init m k = init k := by
  cases m with
  | nil => rfl
  | cons c rest =>
    simp only [Memory.wfFrom, Bool.and_eq_true, decide_eq_true_eq] at hw
    simp only [Memory.read]
    rw [if_neg (by omega), if_pos (by omega)]

/-- A write keeps the canonical form. -/
theorem Memory.wfFrom_write {m : Memory α} {lo k : Nat} {v : α} (hw : Memory.wfFrom init lo m = true) (hk : lo ≤ k) :
    Memory.wfFrom init lo (Memory.write init m k v) = true := by
  induction m generalizing lo with
  | nil =>
    simp only [Memory.write]
    split <;> simp_all [Memory.wfFrom]
  | cons c rest ih =>
    obtain ⟨k', v'⟩ := c
    simp only [Memory.wfFrom, Bool.and_eq_true, decide_eq_true_eq] at hw
    simp only [Memory.write]
    split
    · split
      · simp only [Memory.wfFrom, Bool.and_eq_true, decide_eq_true_eq]
        exact hw
      · simp only [Memory.wfFrom, Bool.and_eq_true, decide_eq_true_eq]
        exact ⟨⟨hk, by assumption⟩, ⟨by omega, hw.1.2⟩, hw.2⟩
    · split
      · subst_vars
        split
        · exact Memory.wfFrom_mono (by omega) hw.2
        · simp only [Memory.wfFrom, Bool.and_eq_true, decide_eq_true_eq]
          exact ⟨⟨hk, by assumption⟩, hw.2⟩
      · simp only [Memory.wfFrom, Bool.and_eq_true, decide_eq_true_eq]
        exact ⟨⟨hw.1.1, hw.1.2⟩, ih hw.2 (by omega)⟩

theorem Memory.wf_write {m : Memory α} {k : Nat} {v : α} (hw : Memory.wf init m = true) :
    Memory.wf init (Memory.write init m k v) = true :=
  Memory.wfFrom_write hw (Nat.zero_le k)

theorem Memory.read_write_from {m : Memory α} {lo : Nat} {v : α} (hw : Memory.wfFrom init lo m = true) (k j : Nat) :
    Memory.read init (Memory.write init m k v) j = if j = k then v else Memory.read init m j := by
  induction m generalizing lo with
  | nil =>
    simp only [Memory.write]
    by_cases hv : v = init k
    · rw [if_pos hv]
      simp only [Memory.read]
      split <;> simp_all
    · rw [if_neg hv]
      simp only [Memory.read]
      repeat' split
      all_goals simp_all
  | cons c rest ih =>
    obtain ⟨k', v'⟩ := c
    simp only [Memory.wfFrom, Bool.and_eq_true, decide_eq_true_eq] at hw
    have hr : ∀ i, i ≤ k' → Memory.read init rest i = init i := fun i hi => Memory.read_below hw.2 (by omega)
    simp only [Memory.write]
    by_cases h1 : k < k'
    · rw [if_pos h1]
      by_cases hv : v = init k
      · rw [if_pos hv]
        by_cases hj : j = k
        · subst hj
          rw [if_pos rfl, hv]
          simp only [Memory.read]
          rw [if_neg (by omega), if_pos h1]
        · rw [if_neg hj]
      · rw [if_neg hv]
        by_cases hj : j = k
        · subst hj; simp [Memory.read]
        · rw [if_neg hj]
          conv_lhs => unfold Memory.read
          rw [if_neg hj]
          split
          · simp only [Memory.read]
            rw [if_neg (by omega), if_pos (by omega)]
          · rfl
    · rw [if_neg h1]
      by_cases h2 : k = k'
      · subst h2
        rw [if_pos rfl]
        by_cases hv : v = init k
        · rw [if_pos hv]
          by_cases hj : j = k
          · subst hj; rw [if_pos rfl, hv]; exact hr j (by omega)
          · rw [if_neg hj]
            conv_rhs => unfold Memory.read
            rw [if_neg hj]
            split
            · exact hr j (by omega)
            · rfl
        · rw [if_neg hv]
          simp only [Memory.read]
          by_cases hj : j = k
          · simp [hj]
          · simp [hj]
      · rw [if_neg h2]
        simp only [Memory.read]
        by_cases hj : j = k
        · subst hj
          rw [if_neg h2, if_neg h1, ih hw.2, if_pos rfl, if_pos rfl]
        · rw [if_neg hj, ih hw.2, if_neg hj]

/-- What a read gives after a write: the value at the written address, what was there before elsewhere. -/
theorem Memory.read_write {m : Memory α} {v : α} (hw : Memory.wf init m = true) (k j : Nat) :
    Memory.read init (Memory.write init m k v) j = if j = k then v else Memory.read init m j :=
  Memory.read_write_from hw k j

theorem Memory.read_write_same {m : Memory α} {v : α} (hw : Memory.wf init m = true) (k : Nat) :
    Memory.read init (Memory.write init m k v) k = v := by
  rw [Memory.read_write hw, if_pos rfl]

theorem Memory.read_write_other {m : Memory α} {v : α} {k j : Nat} (hw : Memory.wf init m = true) (h : j ≠ k) :
    Memory.read init (Memory.write init m k v) j = Memory.read init m j := by
  rw [Memory.read_write hw, if_neg h]

/-- A property of addresses that all listed addresses have is kept by a write to an address that has it. -/
theorem Memory.all_write {m : Memory α} {k : Nat} {v : α} {p : Nat → Bool} (hm : m.all (fun cell => p cell.1) = true)
    (hk : p k = true) : (Memory.write init m k v).all (fun cell => p cell.1) = true := by
  induction m with
  | nil => simp only [Memory.write]; split <;> simp_all
  | cons c rest ih =>
    obtain ⟨k', v'⟩ := c
    rw [List.all_cons, Bool.and_eq_true] at hm
    have hr := ih hm.2
    simp only [Memory.write]
    split
    · split
      · rw [List.all_cons, Bool.and_eq_true]; exact hm
      · rw [List.all_cons, Bool.and_eq_true, List.all_cons, Bool.and_eq_true]; exact ⟨hk, hm⟩
    · split
      · split
        · exact hm.2
        · rw [List.all_cons, Bool.and_eq_true]; exact ⟨hk, hm.2⟩
      · rw [List.all_cons, Bool.and_eq_true]; exact ⟨hm.1, hr⟩

theorem Memory.below_write {m : Memory α} {k bound : Nat} {v : α} (hm : Memory.below bound m = true) (hk : k < bound) :
    Memory.below bound (Memory.write init m k v) = true :=
  Memory.all_write (p := fun i => decide (i < bound)) hm (by simpa using hk)

/-- Canonical stores with the same reads are equal. -/
theorem Memory.ext_from {m m' : Memory α} {lo : Nat} (hw : Memory.wfFrom init lo m = true)
    (hw' : Memory.wfFrom init lo m' = true) (h : ∀ k, lo ≤ k → Memory.read init m k = Memory.read init m' k) : m = m' := by
  induction m generalizing m' lo with
  | nil =>
    cases m' with
    | nil => rfl
    | cons c rest =>
      obtain ⟨k, v⟩ := c
      simp only [Memory.wfFrom, Bool.and_eq_true, decide_eq_true_eq] at hw'
      have := h k hw'.1.1
      simp only [Memory.read, if_pos] at this
      exact absurd this.symm hw'.1.2
  | cons c rest ih =>
    obtain ⟨k, v⟩ := c
    simp only [Memory.wfFrom, Bool.and_eq_true, decide_eq_true_eq] at hw
    cases m' with
    | nil =>
      have := h k hw.1.1
      simp only [Memory.read, if_pos] at this
      exact absurd this hw.1.2
    | cons c' rest' =>
      obtain ⟨k', v'⟩ := c'
      simp only [Memory.wfFrom, Bool.and_eq_true, decide_eq_true_eq] at hw'
      have hkk : k = k' := by
        rcases Nat.lt_trichotomy k k' with hlt | heq | hgt
        · have := h k hw.1.1
          simp only [Memory.read, if_true] at this
          rw [if_neg (by omega), if_pos hlt] at this
          exact absurd this hw.1.2
        · exact heq
        · have := h k' hw'.1.1
          simp only [Memory.read, if_true] at this
          rw [if_neg (by omega), if_pos hgt] at this
          exact absurd this.symm hw'.1.2
      subst hkk
      have hv : v = v' := by
        have := h k hw.1.1
        simpa [Memory.read] using this
      subst hv
      have : rest = rest' := ih hw.2 hw'.2 (fun j hj => by
        have := h j (by omega)
        simp only [Memory.read] at this
        rwa [if_neg (by omega), if_neg (by omega), if_neg (by omega), if_neg (by omega)] at this)
      rw [this]

theorem Memory.ext {m m' : Memory α} (hw : Memory.wf init m = true) (hw' : Memory.wf init m' = true)
    (h : ∀ k, Memory.read init m k = Memory.read init m' k) : m = m' :=
  Memory.ext_from hw hw' (fun k _ => h k)

/-- A byte string is a canonical store. -/
theorem Memory.wfFrom_ofBytes (init : Nat → Byte) (bytes : List Byte) (k : Nat) :
    Memory.wfFrom init k (Memory.ofBytes init k bytes) = true := by
  induction bytes generalizing k with
  | nil => rfl
  | cons v rest ih =>
    simp only [Memory.ofBytes]
    split
    · exact Memory.wfFrom_mono (Nat.le_succ k) (ih (k + 1))
    · simp only [Memory.wfFrom, Bool.and_eq_true, decide_eq_true_eq]
      exact ⟨⟨Nat.le_refl k, by assumption⟩, ih (k + 1)⟩

theorem Memory.wf_ofBytes (init : Nat → Byte) (bytes : List Byte) (k : Nat) :
    Memory.wf init (Memory.ofBytes init k bytes) = true :=
  Memory.wfFrom_mono (Nat.zero_le k) (Memory.wfFrom_ofBytes init bytes k)

theorem Memory.below_ofBytes (init : Nat → Byte) (bytes : List Byte) (k : Nat) :
    Memory.below (k + bytes.length) (Memory.ofBytes init k bytes) = true := by
  induction bytes generalizing k with
  | nil => rfl
  | cons v rest ih =>
    have h := ih (k + 1)
    have he : k + 1 + rest.length = k + (v :: rest).length := by simp only [List.length_cons]; omega
    rw [he] at h
    simp only [Memory.ofBytes]
    split
    · exact h
    · simp only [Memory.below, List.all_cons, Bool.and_eq_true, decide_eq_true_eq] at h ⊢
      exact ⟨by simp only [List.length_cons]; omega, h⟩

/-- What a byte string's store holds: its bytes from `k` on, and what an unlisted address reads as elsewhere. -/
theorem Memory.read_ofBytes (init : Nat → Byte) (bytes : List Byte) (k j : Nat) :
    Memory.read init (Memory.ofBytes init k bytes) j =
      if h : k ≤ j ∧ j - k < bytes.length then bytes[j - k]'h.2 else init j := by
  induction bytes generalizing k with
  | nil => simp [Memory.ofBytes, Memory.read]
  | cons v rest ih =>
    have hb := fun h => Memory.read_below (Memory.wfFrom_ofBytes init rest (k + 1)) (k := j) h
    have hi := ih (k + 1)
    by_cases hjk : j < k
    · rw [dif_neg (by omega)]
      exact Memory.read_below (Memory.wfFrom_ofBytes init (v :: rest) k) hjk
    by_cases hje : j = k
    · subst hje
      rw [dif_pos ⟨Nat.le_refl j, by simp⟩]
      simp only [Memory.ofBytes, Nat.sub_self, List.getElem_cons_zero]
      split
      · rw [hb (by omega)]; simp_all
      · simp [Memory.read]
    · have key : Memory.read init (Memory.ofBytes init k (v :: rest)) j =
          Memory.read init (Memory.ofBytes init (k + 1) rest) j := by
        simp only [Memory.ofBytes]
        split
        · rfl
        · simp only [Memory.read]; rw [if_neg hje, if_neg hjk]
      rw [key, hi]
      by_cases hlen : j - (k + 1) < rest.length
      · rw [dif_pos ⟨by omega, hlen⟩, dif_pos ⟨by omega, by simp only [List.length_cons]; omega⟩]
        have : j - k = (j - (k + 1)) + 1 := by omega
        simp only [this, List.getElem_cons_succ]
      · rw [dif_neg (by omega), dif_neg (by simp only [List.length_cons]; omega)]

end Sys2Proof.Machine
end

