-- ==== Sys2Proof/Laws/State.lean ====
section
/-! SUPPORT. One lemma for each field of the state and each named update: what the update writes, and what it leaves. -/

namespace Sys2Proof.Machine

/-! ## The Game Boy machine -/

@[simp] theorem GameBoy.spend_a (g : GameBoy) (n : Nat) : (g.spend n).a = g.a := rfl
@[simp] theorem GameBoy.spend_f (g : GameBoy) (n : Nat) : (g.spend n).f = g.f := rfl
@[simp] theorem GameBoy.spend_b (g : GameBoy) (n : Nat) : (g.spend n).b = g.b := rfl
@[simp] theorem GameBoy.spend_c (g : GameBoy) (n : Nat) : (g.spend n).c = g.c := rfl
@[simp] theorem GameBoy.spend_d (g : GameBoy) (n : Nat) : (g.spend n).d = g.d := rfl
@[simp] theorem GameBoy.spend_e (g : GameBoy) (n : Nat) : (g.spend n).e = g.e := rfl
@[simp] theorem GameBoy.spend_h (g : GameBoy) (n : Nat) : (g.spend n).h = g.h := rfl
@[simp] theorem GameBoy.spend_l (g : GameBoy) (n : Nat) : (g.spend n).l = g.l := rfl
@[simp] theorem GameBoy.spend_sp (g : GameBoy) (n : Nat) : (g.spend n).sp = g.sp := rfl
@[simp] theorem GameBoy.spend_pc (g : GameBoy) (n : Nat) : (g.spend n).pc = g.pc := rfl
@[simp] theorem GameBoy.spend_ime (g : GameBoy) (n : Nat) : (g.spend n).ime = g.ime := rfl
@[simp] theorem GameBoy.spend_halted (g : GameBoy) (n : Nat) : (g.spend n).halted = g.halted := rfl
@[simp] theorem GameBoy.spend_mem (g : GameBoy) (n : Nat) : (g.spend n).mem = g.mem := rfl
@[simp] theorem GameBoy.spend_rom (g : GameBoy) (n : Nat) : (g.spend n).rom = g.rom := rfl
@[simp] theorem GameBoy.spend_romLen (g : GameBoy) (n : Nat) : (g.spend n).romLen = g.romLen := rfl
@[simp] theorem GameBoy.spend_romBank (g : GameBoy) (n : Nat) : (g.spend n).romBank = g.romBank := rfl
@[simp] theorem GameBoy.spend_ramEnabled (g : GameBoy) (n : Nat) : (g.spend n).ramEnabled = g.ramEnabled := rfl
@[simp] theorem GameBoy.spend_buttons (g : GameBoy) (n : Nat) : (g.spend n).buttons = g.buttons := rfl
@[simp] theorem GameBoy.spend_scanlineCounter (g : GameBoy) (n : Nat) : (g.spend n).scanlineCounter = g.scanlineCounter := rfl
@[simp] theorem GameBoy.spend_frameReady (g : GameBoy) (n : Nat) : (g.spend n).frameReady = g.frameReady := rfl
@[simp] theorem GameBoy.spend_framebuffer (g : GameBoy) (n : Nat) : (g.spend n).framebuffer = g.framebuffer := rfl
@[simp] theorem GameBoy.spend_cycles (g : GameBoy) (n : Nat) : (g.spend n).cycles = n := rfl
@[simp] theorem GameBoy.spend_epoch (g : GameBoy) (n : Nat) : (g.spend n).epoch = g.epoch := rfl

@[simp] theorem GameBoy.setCell_a (g : GameBoy) (k : Nat) (v : Byte) : (g.setCell k v).a = g.a := rfl
@[simp] theorem GameBoy.setCell_f (g : GameBoy) (k : Nat) (v : Byte) : (g.setCell k v).f = g.f := rfl
@[simp] theorem GameBoy.setCell_b (g : GameBoy) (k : Nat) (v : Byte) : (g.setCell k v).b = g.b := rfl
@[simp] theorem GameBoy.setCell_c (g : GameBoy) (k : Nat) (v : Byte) : (g.setCell k v).c = g.c := rfl
@[simp] theorem GameBoy.setCell_d (g : GameBoy) (k : Nat) (v : Byte) : (g.setCell k v).d = g.d := rfl
@[simp] theorem GameBoy.setCell_e (g : GameBoy) (k : Nat) (v : Byte) : (g.setCell k v).e = g.e := rfl
@[simp] theorem GameBoy.setCell_h (g : GameBoy) (k : Nat) (v : Byte) : (g.setCell k v).h = g.h := rfl
@[simp] theorem GameBoy.setCell_l (g : GameBoy) (k : Nat) (v : Byte) : (g.setCell k v).l = g.l := rfl
@[simp] theorem GameBoy.setCell_sp (g : GameBoy) (k : Nat) (v : Byte) : (g.setCell k v).sp = g.sp := rfl
@[simp] theorem GameBoy.setCell_pc (g : GameBoy) (k : Nat) (v : Byte) : (g.setCell k v).pc = g.pc := rfl
@[simp] theorem GameBoy.setCell_ime (g : GameBoy) (k : Nat) (v : Byte) : (g.setCell k v).ime = g.ime := rfl
@[simp] theorem GameBoy.setCell_halted (g : GameBoy) (k : Nat) (v : Byte) : (g.setCell k v).halted = g.halted := rfl
@[simp] theorem GameBoy.setCell_mem (g : GameBoy) (k : Nat) (v : Byte) : (g.setCell k v).mem = Memory.write busInit g.mem k v := rfl
@[simp] theorem GameBoy.setCell_rom (g : GameBoy) (k : Nat) (v : Byte) : (g.setCell k v).rom = g.rom := rfl
@[simp] theorem GameBoy.setCell_romLen (g : GameBoy) (k : Nat) (v : Byte) : (g.setCell k v).romLen = g.romLen := rfl
@[simp] theorem GameBoy.setCell_romBank (g : GameBoy) (k : Nat) (v : Byte) : (g.setCell k v).romBank = g.romBank := rfl
@[simp] theorem GameBoy.setCell_ramEnabled (g : GameBoy) (k : Nat) (v : Byte) : (g.setCell k v).ramEnabled = g.ramEnabled := rfl
@[simp] theorem GameBoy.setCell_buttons (g : GameBoy) (k : Nat) (v : Byte) : (g.setCell k v).buttons = g.buttons := rfl
@[simp] theorem GameBoy.setCell_scanlineCounter (g : GameBoy) (k : Nat) (v : Byte) : (g.setCell k v).scanlineCounter = g.scanlineCounter := rfl
@[simp] theorem GameBoy.setCell_frameReady (g : GameBoy) (k : Nat) (v : Byte) : (g.setCell k v).frameReady = g.frameReady := rfl
@[simp] theorem GameBoy.setCell_framebuffer (g : GameBoy) (k : Nat) (v : Byte) : (g.setCell k v).framebuffer = g.framebuffer := rfl
@[simp] theorem GameBoy.setCell_cycles (g : GameBoy) (k : Nat) (v : Byte) : (g.setCell k v).cycles = g.cycles := rfl
@[simp] theorem GameBoy.setCell_epoch (g : GameBoy) (k : Nat) (v : Byte) : (g.setCell k v).epoch = g.epoch := rfl

@[simp] theorem GameBoy.setHl_a (g : GameBoy) (v : Word) : (g.setHl v).a = g.a := rfl
@[simp] theorem GameBoy.setHl_f (g : GameBoy) (v : Word) : (g.setHl v).f = g.f := rfl
@[simp] theorem GameBoy.setHl_b (g : GameBoy) (v : Word) : (g.setHl v).b = g.b := rfl
@[simp] theorem GameBoy.setHl_c (g : GameBoy) (v : Word) : (g.setHl v).c = g.c := rfl
@[simp] theorem GameBoy.setHl_d (g : GameBoy) (v : Word) : (g.setHl v).d = g.d := rfl
@[simp] theorem GameBoy.setHl_e (g : GameBoy) (v : Word) : (g.setHl v).e = g.e := rfl
@[simp] theorem GameBoy.setHl_h (g : GameBoy) (v : Word) : (g.setHl v).h = highByte v := rfl
@[simp] theorem GameBoy.setHl_l (g : GameBoy) (v : Word) : (g.setHl v).l = lowByte v := rfl
@[simp] theorem GameBoy.setHl_sp (g : GameBoy) (v : Word) : (g.setHl v).sp = g.sp := rfl
@[simp] theorem GameBoy.setHl_pc (g : GameBoy) (v : Word) : (g.setHl v).pc = g.pc := rfl
@[simp] theorem GameBoy.setHl_ime (g : GameBoy) (v : Word) : (g.setHl v).ime = g.ime := rfl
@[simp] theorem GameBoy.setHl_halted (g : GameBoy) (v : Word) : (g.setHl v).halted = g.halted := rfl
@[simp] theorem GameBoy.setHl_mem (g : GameBoy) (v : Word) : (g.setHl v).mem = g.mem := rfl
@[simp] theorem GameBoy.setHl_rom (g : GameBoy) (v : Word) : (g.setHl v).rom = g.rom := rfl
@[simp] theorem GameBoy.setHl_romLen (g : GameBoy) (v : Word) : (g.setHl v).romLen = g.romLen := rfl
@[simp] theorem GameBoy.setHl_romBank (g : GameBoy) (v : Word) : (g.setHl v).romBank = g.romBank := rfl
@[simp] theorem GameBoy.setHl_ramEnabled (g : GameBoy) (v : Word) : (g.setHl v).ramEnabled = g.ramEnabled := rfl
@[simp] theorem GameBoy.setHl_buttons (g : GameBoy) (v : Word) : (g.setHl v).buttons = g.buttons := rfl
@[simp] theorem GameBoy.setHl_scanlineCounter (g : GameBoy) (v : Word) : (g.setHl v).scanlineCounter = g.scanlineCounter := rfl
@[simp] theorem GameBoy.setHl_frameReady (g : GameBoy) (v : Word) : (g.setHl v).frameReady = g.frameReady := rfl
@[simp] theorem GameBoy.setHl_framebuffer (g : GameBoy) (v : Word) : (g.setHl v).framebuffer = g.framebuffer := rfl
@[simp] theorem GameBoy.setHl_cycles (g : GameBoy) (v : Word) : (g.setHl v).cycles = g.cycles := rfl
@[simp] theorem GameBoy.setHl_epoch (g : GameBoy) (v : Word) : (g.setHl v).epoch = g.epoch := rfl

@[simp] theorem GameBoy.setR8_f (g : GameBoy) (r : R8) (v : Byte) : (g.setR8 r v).f = g.f := by cases r <;> rfl
@[simp] theorem GameBoy.setR8_sp (g : GameBoy) (r : R8) (v : Byte) : (g.setR8 r v).sp = g.sp := by cases r <;> rfl
@[simp] theorem GameBoy.setR8_pc (g : GameBoy) (r : R8) (v : Byte) : (g.setR8 r v).pc = g.pc := by cases r <;> rfl
@[simp] theorem GameBoy.setR8_ime (g : GameBoy) (r : R8) (v : Byte) : (g.setR8 r v).ime = g.ime := by cases r <;> rfl
@[simp] theorem GameBoy.setR8_halted (g : GameBoy) (r : R8) (v : Byte) : (g.setR8 r v).halted = g.halted := by cases r <;> rfl
@[simp] theorem GameBoy.setR8_mem (g : GameBoy) (r : R8) (v : Byte) : (g.setR8 r v).mem = g.mem := by cases r <;> rfl
@[simp] theorem GameBoy.setR8_rom (g : GameBoy) (r : R8) (v : Byte) : (g.setR8 r v).rom = g.rom := by cases r <;> rfl
@[simp] theorem GameBoy.setR8_romLen (g : GameBoy) (r : R8) (v : Byte) : (g.setR8 r v).romLen = g.romLen := by cases r <;> rfl
@[simp] theorem GameBoy.setR8_romBank (g : GameBoy) (r : R8) (v : Byte) : (g.setR8 r v).romBank = g.romBank := by cases r <;> rfl
@[simp] theorem GameBoy.setR8_ramEnabled (g : GameBoy) (r : R8) (v : Byte) : (g.setR8 r v).ramEnabled = g.ramEnabled := by cases r <;> rfl
@[simp] theorem GameBoy.setR8_buttons (g : GameBoy) (r : R8) (v : Byte) : (g.setR8 r v).buttons = g.buttons := by cases r <;> rfl
@[simp] theorem GameBoy.setR8_scanlineCounter (g : GameBoy) (r : R8) (v : Byte) : (g.setR8 r v).scanlineCounter = g.scanlineCounter := by cases r <;> rfl
@[simp] theorem GameBoy.setR8_frameReady (g : GameBoy) (r : R8) (v : Byte) : (g.setR8 r v).frameReady = g.frameReady := by cases r <;> rfl
@[simp] theorem GameBoy.setR8_framebuffer (g : GameBoy) (r : R8) (v : Byte) : (g.setR8 r v).framebuffer = g.framebuffer := by cases r <;> rfl
@[simp] theorem GameBoy.setR8_cycles (g : GameBoy) (r : R8) (v : Byte) : (g.setR8 r v).cycles = g.cycles := by cases r <;> rfl
@[simp] theorem GameBoy.setR8_epoch (g : GameBoy) (r : R8) (v : Byte) : (g.setR8 r v).epoch = g.epoch := by cases r <;> rfl

@[simp] theorem GameBoy.setR16_a (g : GameBoy) (p : R16) (v : Word) : (g.setR16 p v).a = g.a := by cases p <;> rfl
@[simp] theorem GameBoy.setR16_f (g : GameBoy) (p : R16) (v : Word) : (g.setR16 p v).f = g.f := by cases p <;> rfl
@[simp] theorem GameBoy.setR16_pc (g : GameBoy) (p : R16) (v : Word) : (g.setR16 p v).pc = g.pc := by cases p <;> rfl
@[simp] theorem GameBoy.setR16_ime (g : GameBoy) (p : R16) (v : Word) : (g.setR16 p v).ime = g.ime := by cases p <;> rfl
@[simp] theorem GameBoy.setR16_halted (g : GameBoy) (p : R16) (v : Word) : (g.setR16 p v).halted = g.halted := by cases p <;> rfl
@[simp] theorem GameBoy.setR16_mem (g : GameBoy) (p : R16) (v : Word) : (g.setR16 p v).mem = g.mem := by cases p <;> rfl
@[simp] theorem GameBoy.setR16_rom (g : GameBoy) (p : R16) (v : Word) : (g.setR16 p v).rom = g.rom := by cases p <;> rfl
@[simp] theorem GameBoy.setR16_romLen (g : GameBoy) (p : R16) (v : Word) : (g.setR16 p v).romLen = g.romLen := by cases p <;> rfl
@[simp] theorem GameBoy.setR16_romBank (g : GameBoy) (p : R16) (v : Word) : (g.setR16 p v).romBank = g.romBank := by cases p <;> rfl
@[simp] theorem GameBoy.setR16_ramEnabled (g : GameBoy) (p : R16) (v : Word) : (g.setR16 p v).ramEnabled = g.ramEnabled := by cases p <;> rfl
@[simp] theorem GameBoy.setR16_buttons (g : GameBoy) (p : R16) (v : Word) : (g.setR16 p v).buttons = g.buttons := by cases p <;> rfl
@[simp] theorem GameBoy.setR16_scanlineCounter (g : GameBoy) (p : R16) (v : Word) : (g.setR16 p v).scanlineCounter = g.scanlineCounter := by cases p <;> rfl
@[simp] theorem GameBoy.setR16_frameReady (g : GameBoy) (p : R16) (v : Word) : (g.setR16 p v).frameReady = g.frameReady := by cases p <;> rfl
@[simp] theorem GameBoy.setR16_framebuffer (g : GameBoy) (p : R16) (v : Word) : (g.setR16 p v).framebuffer = g.framebuffer := by cases p <;> rfl
@[simp] theorem GameBoy.setR16_cycles (g : GameBoy) (p : R16) (v : Word) : (g.setR16 p v).cycles = g.cycles := by cases p <;> rfl
@[simp] theorem GameBoy.setR16_epoch (g : GameBoy) (p : R16) (v : Word) : (g.setR16 p v).epoch = g.epoch := by cases p <;> rfl

@[simp] theorem GameBoy.setR16stk_sp (g : GameBoy) (p : R16Stk) (v : Word) : (g.setR16stk p v).sp = g.sp := by cases p <;> rfl
@[simp] theorem GameBoy.setR16stk_pc (g : GameBoy) (p : R16Stk) (v : Word) : (g.setR16stk p v).pc = g.pc := by cases p <;> rfl
@[simp] theorem GameBoy.setR16stk_ime (g : GameBoy) (p : R16Stk) (v : Word) : (g.setR16stk p v).ime = g.ime := by cases p <;> rfl
@[simp] theorem GameBoy.setR16stk_halted (g : GameBoy) (p : R16Stk) (v : Word) : (g.setR16stk p v).halted = g.halted := by cases p <;> rfl
@[simp] theorem GameBoy.setR16stk_mem (g : GameBoy) (p : R16Stk) (v : Word) : (g.setR16stk p v).mem = g.mem := by cases p <;> rfl
@[simp] theorem GameBoy.setR16stk_rom (g : GameBoy) (p : R16Stk) (v : Word) : (g.setR16stk p v).rom = g.rom := by cases p <;> rfl
@[simp] theorem GameBoy.setR16stk_romLen (g : GameBoy) (p : R16Stk) (v : Word) : (g.setR16stk p v).romLen = g.romLen := by cases p <;> rfl
@[simp] theorem GameBoy.setR16stk_romBank (g : GameBoy) (p : R16Stk) (v : Word) : (g.setR16stk p v).romBank = g.romBank := by cases p <;> rfl
@[simp] theorem GameBoy.setR16stk_ramEnabled (g : GameBoy) (p : R16Stk) (v : Word) : (g.setR16stk p v).ramEnabled = g.ramEnabled := by cases p <;> rfl
@[simp] theorem GameBoy.setR16stk_buttons (g : GameBoy) (p : R16Stk) (v : Word) : (g.setR16stk p v).buttons = g.buttons := by cases p <;> rfl
@[simp] theorem GameBoy.setR16stk_scanlineCounter (g : GameBoy) (p : R16Stk) (v : Word) : (g.setR16stk p v).scanlineCounter = g.scanlineCounter := by cases p <;> rfl
@[simp] theorem GameBoy.setR16stk_frameReady (g : GameBoy) (p : R16Stk) (v : Word) : (g.setR16stk p v).frameReady = g.frameReady := by cases p <;> rfl
@[simp] theorem GameBoy.setR16stk_framebuffer (g : GameBoy) (p : R16Stk) (v : Word) : (g.setR16stk p v).framebuffer = g.framebuffer := by cases p <;> rfl
@[simp] theorem GameBoy.setR16stk_cycles (g : GameBoy) (p : R16Stk) (v : Word) : (g.setR16stk p v).cycles = g.cycles := by cases p <;> rfl
@[simp] theorem GameBoy.setR16stk_epoch (g : GameBoy) (p : R16Stk) (v : Word) : (g.setR16stk p v).epoch = g.epoch := by cases p <;> rfl

@[simp] theorem GameBoy.skipBytes_a (g : GameBoy) (n : Nat) : (g.skipBytes n).a = g.a := rfl
@[simp] theorem GameBoy.skipBytes_f (g : GameBoy) (n : Nat) : (g.skipBytes n).f = g.f := rfl
@[simp] theorem GameBoy.skipBytes_b (g : GameBoy) (n : Nat) : (g.skipBytes n).b = g.b := rfl
@[simp] theorem GameBoy.skipBytes_c (g : GameBoy) (n : Nat) : (g.skipBytes n).c = g.c := rfl
@[simp] theorem GameBoy.skipBytes_d (g : GameBoy) (n : Nat) : (g.skipBytes n).d = g.d := rfl
@[simp] theorem GameBoy.skipBytes_e (g : GameBoy) (n : Nat) : (g.skipBytes n).e = g.e := rfl
@[simp] theorem GameBoy.skipBytes_h (g : GameBoy) (n : Nat) : (g.skipBytes n).h = g.h := rfl
@[simp] theorem GameBoy.skipBytes_l (g : GameBoy) (n : Nat) : (g.skipBytes n).l = g.l := rfl
@[simp] theorem GameBoy.skipBytes_sp (g : GameBoy) (n : Nat) : (g.skipBytes n).sp = g.sp := rfl
@[simp] theorem GameBoy.skipBytes_pc (g : GameBoy) (n : Nat) : (g.skipBytes n).pc = g.pc + BitVec.ofNat 16 n := rfl
@[simp] theorem GameBoy.skipBytes_ime (g : GameBoy) (n : Nat) : (g.skipBytes n).ime = g.ime := rfl
@[simp] theorem GameBoy.skipBytes_halted (g : GameBoy) (n : Nat) : (g.skipBytes n).halted = g.halted := rfl
@[simp] theorem GameBoy.skipBytes_mem (g : GameBoy) (n : Nat) : (g.skipBytes n).mem = g.mem := rfl
@[simp] theorem GameBoy.skipBytes_rom (g : GameBoy) (n : Nat) : (g.skipBytes n).rom = g.rom := rfl
@[simp] theorem GameBoy.skipBytes_romLen (g : GameBoy) (n : Nat) : (g.skipBytes n).romLen = g.romLen := rfl
@[simp] theorem GameBoy.skipBytes_romBank (g : GameBoy) (n : Nat) : (g.skipBytes n).romBank = g.romBank := rfl
@[simp] theorem GameBoy.skipBytes_ramEnabled (g : GameBoy) (n : Nat) : (g.skipBytes n).ramEnabled = g.ramEnabled := rfl
@[simp] theorem GameBoy.skipBytes_buttons (g : GameBoy) (n : Nat) : (g.skipBytes n).buttons = g.buttons := rfl
@[simp] theorem GameBoy.skipBytes_scanlineCounter (g : GameBoy) (n : Nat) : (g.skipBytes n).scanlineCounter = g.scanlineCounter := rfl
@[simp] theorem GameBoy.skipBytes_frameReady (g : GameBoy) (n : Nat) : (g.skipBytes n).frameReady = g.frameReady := rfl
@[simp] theorem GameBoy.skipBytes_framebuffer (g : GameBoy) (n : Nat) : (g.skipBytes n).framebuffer = g.framebuffer := rfl
@[simp] theorem GameBoy.skipBytes_cycles (g : GameBoy) (n : Nat) : (g.skipBytes n).cycles = g.cycles := rfl
@[simp] theorem GameBoy.skipBytes_epoch (g : GameBoy) (n : Nat) : (g.skipBytes n).epoch = g.epoch := rfl

@[simp] theorem GameBoy.popped_a (g : GameBoy) : (g.popped).a = g.a := rfl
@[simp] theorem GameBoy.popped_f (g : GameBoy) : (g.popped).f = g.f := rfl
@[simp] theorem GameBoy.popped_b (g : GameBoy) : (g.popped).b = g.b := rfl
@[simp] theorem GameBoy.popped_c (g : GameBoy) : (g.popped).c = g.c := rfl
@[simp] theorem GameBoy.popped_d (g : GameBoy) : (g.popped).d = g.d := rfl
@[simp] theorem GameBoy.popped_e (g : GameBoy) : (g.popped).e = g.e := rfl
@[simp] theorem GameBoy.popped_h (g : GameBoy) : (g.popped).h = g.h := rfl
@[simp] theorem GameBoy.popped_l (g : GameBoy) : (g.popped).l = g.l := rfl
@[simp] theorem GameBoy.popped_sp (g : GameBoy) : (g.popped).sp = g.sp + 2 := rfl
@[simp] theorem GameBoy.popped_pc (g : GameBoy) : (g.popped).pc = g.pc := rfl
@[simp] theorem GameBoy.popped_ime (g : GameBoy) : (g.popped).ime = g.ime := rfl
@[simp] theorem GameBoy.popped_halted (g : GameBoy) : (g.popped).halted = g.halted := rfl
@[simp] theorem GameBoy.popped_mem (g : GameBoy) : (g.popped).mem = g.mem := rfl
@[simp] theorem GameBoy.popped_rom (g : GameBoy) : (g.popped).rom = g.rom := rfl
@[simp] theorem GameBoy.popped_romLen (g : GameBoy) : (g.popped).romLen = g.romLen := rfl
@[simp] theorem GameBoy.popped_romBank (g : GameBoy) : (g.popped).romBank = g.romBank := rfl
@[simp] theorem GameBoy.popped_ramEnabled (g : GameBoy) : (g.popped).ramEnabled = g.ramEnabled := rfl
@[simp] theorem GameBoy.popped_buttons (g : GameBoy) : (g.popped).buttons = g.buttons := rfl
@[simp] theorem GameBoy.popped_scanlineCounter (g : GameBoy) : (g.popped).scanlineCounter = g.scanlineCounter := rfl
@[simp] theorem GameBoy.popped_frameReady (g : GameBoy) : (g.popped).frameReady = g.frameReady := rfl
@[simp] theorem GameBoy.popped_framebuffer (g : GameBoy) : (g.popped).framebuffer = g.framebuffer := rfl
@[simp] theorem GameBoy.popped_cycles (g : GameBoy) : (g.popped).cycles = g.cycles := rfl
@[simp] theorem GameBoy.popped_epoch (g : GameBoy) : (g.popped).epoch = g.epoch := rfl

@[simp] theorem GameBoy.drawPixel_a (g : GameBoy) (ly col : Nat) : (GameBoy.drawPixel ly g col).a = g.a := rfl
@[simp] theorem GameBoy.drawPixel_f (g : GameBoy) (ly col : Nat) : (GameBoy.drawPixel ly g col).f = g.f := rfl
@[simp] theorem GameBoy.drawPixel_b (g : GameBoy) (ly col : Nat) : (GameBoy.drawPixel ly g col).b = g.b := rfl
@[simp] theorem GameBoy.drawPixel_c (g : GameBoy) (ly col : Nat) : (GameBoy.drawPixel ly g col).c = g.c := rfl
@[simp] theorem GameBoy.drawPixel_d (g : GameBoy) (ly col : Nat) : (GameBoy.drawPixel ly g col).d = g.d := rfl
@[simp] theorem GameBoy.drawPixel_e (g : GameBoy) (ly col : Nat) : (GameBoy.drawPixel ly g col).e = g.e := rfl
@[simp] theorem GameBoy.drawPixel_h (g : GameBoy) (ly col : Nat) : (GameBoy.drawPixel ly g col).h = g.h := rfl
@[simp] theorem GameBoy.drawPixel_l (g : GameBoy) (ly col : Nat) : (GameBoy.drawPixel ly g col).l = g.l := rfl
@[simp] theorem GameBoy.drawPixel_sp (g : GameBoy) (ly col : Nat) : (GameBoy.drawPixel ly g col).sp = g.sp := rfl
@[simp] theorem GameBoy.drawPixel_pc (g : GameBoy) (ly col : Nat) : (GameBoy.drawPixel ly g col).pc = g.pc := rfl
@[simp] theorem GameBoy.drawPixel_ime (g : GameBoy) (ly col : Nat) : (GameBoy.drawPixel ly g col).ime = g.ime := rfl
@[simp] theorem GameBoy.drawPixel_halted (g : GameBoy) (ly col : Nat) : (GameBoy.drawPixel ly g col).halted = g.halted := rfl
@[simp] theorem GameBoy.drawPixel_mem (g : GameBoy) (ly col : Nat) : (GameBoy.drawPixel ly g col).mem = g.mem := rfl
@[simp] theorem GameBoy.drawPixel_rom (g : GameBoy) (ly col : Nat) : (GameBoy.drawPixel ly g col).rom = g.rom := rfl
@[simp] theorem GameBoy.drawPixel_romLen (g : GameBoy) (ly col : Nat) : (GameBoy.drawPixel ly g col).romLen = g.romLen := rfl
@[simp] theorem GameBoy.drawPixel_romBank (g : GameBoy) (ly col : Nat) : (GameBoy.drawPixel ly g col).romBank = g.romBank := rfl
@[simp] theorem GameBoy.drawPixel_ramEnabled (g : GameBoy) (ly col : Nat) : (GameBoy.drawPixel ly g col).ramEnabled = g.ramEnabled := rfl
@[simp] theorem GameBoy.drawPixel_buttons (g : GameBoy) (ly col : Nat) : (GameBoy.drawPixel ly g col).buttons = g.buttons := rfl
@[simp] theorem GameBoy.drawPixel_scanlineCounter (g : GameBoy) (ly col : Nat) : (GameBoy.drawPixel ly g col).scanlineCounter = g.scanlineCounter := rfl
@[simp] theorem GameBoy.drawPixel_frameReady (g : GameBoy) (ly col : Nat) : (GameBoy.drawPixel ly g col).frameReady = g.frameReady := rfl
@[simp] theorem GameBoy.drawPixel_framebuffer (g : GameBoy) (ly col : Nat) : (GameBoy.drawPixel ly g col).framebuffer = Memory.write pixelInit g.framebuffer (pixelIndex ly col) (g.shade ly col) := rfl
@[simp] theorem GameBoy.drawPixel_cycles (g : GameBoy) (ly col : Nat) : (GameBoy.drawPixel ly g col).cycles = g.cycles := rfl
@[simp] theorem GameBoy.drawPixel_epoch (g : GameBoy) (ly col : Nat) : (GameBoy.drawPixel ly g col).epoch = g.epoch := rfl

/-! ## The CHIP-8 machine -/

@[simp] theorem Chip8.setReg_memory (c : Chip8) (x : Nibble) (v : Byte) : (c.setReg x v).memory = c.memory := rfl
@[simp] theorem Chip8.setReg_v (c : Chip8) (x : Nibble) (v : Byte) : (c.setReg x v).v = c.v.set x.toNat v x.isLt := rfl
@[simp] theorem Chip8.setReg_i (c : Chip8) (x : Nibble) (v : Byte) : (c.setReg x v).i = c.i := rfl
@[simp] theorem Chip8.setReg_pc (c : Chip8) (x : Nibble) (v : Byte) : (c.setReg x v).pc = c.pc := rfl
@[simp] theorem Chip8.setReg_stack (c : Chip8) (x : Nibble) (v : Byte) : (c.setReg x v).stack = c.stack := rfl
@[simp] theorem Chip8.setReg_sp (c : Chip8) (x : Nibble) (v : Byte) : (c.setReg x v).sp = c.sp := rfl
@[simp] theorem Chip8.setReg_delay (c : Chip8) (x : Nibble) (v : Byte) : (c.setReg x v).delay = c.delay := rfl
@[simp] theorem Chip8.setReg_sound (c : Chip8) (x : Nibble) (v : Byte) : (c.setReg x v).sound = c.sound := rfl
@[simp] theorem Chip8.setReg_gfx (c : Chip8) (x : Nibble) (v : Byte) : (c.setReg x v).gfx = c.gfx := rfl
@[simp] theorem Chip8.setReg_keys (c : Chip8) (x : Nibble) (v : Byte) : (c.setReg x v).keys = c.keys := rfl
@[simp] theorem Chip8.setReg_waitingForKey (c : Chip8) (x : Nibble) (v : Byte) : (c.setReg x v).waitingForKey = c.waitingForKey := rfl
@[simp] theorem Chip8.setReg_waitReg (c : Chip8) (x : Nibble) (v : Byte) : (c.setReg x v).waitReg = c.waitReg := rfl
@[simp] theorem Chip8.setReg_rngDraws (c : Chip8) (x : Nibble) (v : Byte) : (c.setReg x v).rngDraws = c.rngDraws := rfl
@[simp] theorem Chip8.setReg_image (c : Chip8) (x : Nibble) (v : Byte) : (c.setReg x v).image = c.image := rfl
@[simp] theorem Chip8.setReg_bells (c : Chip8) (x : Nibble) (v : Byte) : (c.setReg x v).bells = c.bells := rfl

@[simp] theorem Chip8.store_memory (c : Chip8) (a : Addr12) (v : Byte) : (c.store a v).memory = Memory.write ch8Init c.memory a.toNat v := rfl
@[simp] theorem Chip8.store_v (c : Chip8) (a : Addr12) (v : Byte) : (c.store a v).v = c.v := rfl
@[simp] theorem Chip8.store_i (c : Chip8) (a : Addr12) (v : Byte) : (c.store a v).i = c.i := rfl
@[simp] theorem Chip8.store_pc (c : Chip8) (a : Addr12) (v : Byte) : (c.store a v).pc = c.pc := rfl
@[simp] theorem Chip8.store_stack (c : Chip8) (a : Addr12) (v : Byte) : (c.store a v).stack = c.stack := rfl
@[simp] theorem Chip8.store_sp (c : Chip8) (a : Addr12) (v : Byte) : (c.store a v).sp = c.sp := rfl
@[simp] theorem Chip8.store_delay (c : Chip8) (a : Addr12) (v : Byte) : (c.store a v).delay = c.delay := rfl
@[simp] theorem Chip8.store_sound (c : Chip8) (a : Addr12) (v : Byte) : (c.store a v).sound = c.sound := rfl
@[simp] theorem Chip8.store_gfx (c : Chip8) (a : Addr12) (v : Byte) : (c.store a v).gfx = c.gfx := rfl
@[simp] theorem Chip8.store_keys (c : Chip8) (a : Addr12) (v : Byte) : (c.store a v).keys = c.keys := rfl
@[simp] theorem Chip8.store_waitingForKey (c : Chip8) (a : Addr12) (v : Byte) : (c.store a v).waitingForKey = c.waitingForKey := rfl
@[simp] theorem Chip8.store_waitReg (c : Chip8) (a : Addr12) (v : Byte) : (c.store a v).waitReg = c.waitReg := rfl
@[simp] theorem Chip8.store_rngDraws (c : Chip8) (a : Addr12) (v : Byte) : (c.store a v).rngDraws = c.rngDraws := rfl
@[simp] theorem Chip8.store_image (c : Chip8) (a : Addr12) (v : Byte) : (c.store a v).image = c.image := rfl
@[simp] theorem Chip8.store_bells (c : Chip8) (a : Addr12) (v : Byte) : (c.store a v).bells = c.bells := rfl

@[simp] theorem Chip8.advance_memory (c : Chip8) : (c.advance).memory = c.memory := rfl
@[simp] theorem Chip8.advance_v (c : Chip8) : (c.advance).v = c.v := rfl
@[simp] theorem Chip8.advance_i (c : Chip8) : (c.advance).i = c.i := rfl
@[simp] theorem Chip8.advance_pc (c : Chip8) : (c.advance).pc = c.pc + 2 := rfl
@[simp] theorem Chip8.advance_stack (c : Chip8) : (c.advance).stack = c.stack := rfl
@[simp] theorem Chip8.advance_sp (c : Chip8) : (c.advance).sp = c.sp := rfl
@[simp] theorem Chip8.advance_delay (c : Chip8) : (c.advance).delay = c.delay := rfl
@[simp] theorem Chip8.advance_sound (c : Chip8) : (c.advance).sound = c.sound := rfl
@[simp] theorem Chip8.advance_gfx (c : Chip8) : (c.advance).gfx = c.gfx := rfl
@[simp] theorem Chip8.advance_keys (c : Chip8) : (c.advance).keys = c.keys := rfl
@[simp] theorem Chip8.advance_waitingForKey (c : Chip8) : (c.advance).waitingForKey = c.waitingForKey := rfl
@[simp] theorem Chip8.advance_waitReg (c : Chip8) : (c.advance).waitReg = c.waitReg := rfl
@[simp] theorem Chip8.advance_rngDraws (c : Chip8) : (c.advance).rngDraws = c.rngDraws := rfl
@[simp] theorem Chip8.advance_image (c : Chip8) : (c.advance).image = c.image := rfl
@[simp] theorem Chip8.advance_bells (c : Chip8) : (c.advance).bells = c.bells := rfl

@[simp] theorem Chip8.skipIf_memory (c : Chip8) (t : Bool) : (c.skipIf t).memory = c.memory := by cases t <;> rfl
@[simp] theorem Chip8.skipIf_v (c : Chip8) (t : Bool) : (c.skipIf t).v = c.v := by cases t <;> rfl
@[simp] theorem Chip8.skipIf_i (c : Chip8) (t : Bool) : (c.skipIf t).i = c.i := by cases t <;> rfl
@[simp] theorem Chip8.skipIf_stack (c : Chip8) (t : Bool) : (c.skipIf t).stack = c.stack := by cases t <;> rfl
@[simp] theorem Chip8.skipIf_sp (c : Chip8) (t : Bool) : (c.skipIf t).sp = c.sp := by cases t <;> rfl
@[simp] theorem Chip8.skipIf_delay (c : Chip8) (t : Bool) : (c.skipIf t).delay = c.delay := by cases t <;> rfl
@[simp] theorem Chip8.skipIf_sound (c : Chip8) (t : Bool) : (c.skipIf t).sound = c.sound := by cases t <;> rfl
@[simp] theorem Chip8.skipIf_gfx (c : Chip8) (t : Bool) : (c.skipIf t).gfx = c.gfx := by cases t <;> rfl
@[simp] theorem Chip8.skipIf_keys (c : Chip8) (t : Bool) : (c.skipIf t).keys = c.keys := by cases t <;> rfl
@[simp] theorem Chip8.skipIf_waitingForKey (c : Chip8) (t : Bool) : (c.skipIf t).waitingForKey = c.waitingForKey := by cases t <;> rfl
@[simp] theorem Chip8.skipIf_waitReg (c : Chip8) (t : Bool) : (c.skipIf t).waitReg = c.waitReg := by cases t <;> rfl
@[simp] theorem Chip8.skipIf_rngDraws (c : Chip8) (t : Bool) : (c.skipIf t).rngDraws = c.rngDraws := by cases t <;> rfl
@[simp] theorem Chip8.skipIf_image (c : Chip8) (t : Bool) : (c.skipIf t).image = c.image := by cases t <;> rfl
@[simp] theorem Chip8.skipIf_bells (c : Chip8) (t : Bool) : (c.skipIf t).bells = c.bells := by cases t <;> rfl

@[simp] theorem Chip8.flipPixel_memory (c : Chip8) (x y : Nat) : (c.flipPixel x y).memory = c.memory := by unfold Chip8.flipPixel; split <;> rfl
@[simp] theorem Chip8.flipPixel_v (c : Chip8) (x y : Nat) : (c.flipPixel x y).v = c.v := by unfold Chip8.flipPixel; split <;> rfl
@[simp] theorem Chip8.flipPixel_i (c : Chip8) (x y : Nat) : (c.flipPixel x y).i = c.i := by unfold Chip8.flipPixel; split <;> rfl
@[simp] theorem Chip8.flipPixel_pc (c : Chip8) (x y : Nat) : (c.flipPixel x y).pc = c.pc := by unfold Chip8.flipPixel; split <;> rfl
@[simp] theorem Chip8.flipPixel_stack (c : Chip8) (x y : Nat) : (c.flipPixel x y).stack = c.stack := by unfold Chip8.flipPixel; split <;> rfl
@[simp] theorem Chip8.flipPixel_sp (c : Chip8) (x y : Nat) : (c.flipPixel x y).sp = c.sp := by unfold Chip8.flipPixel; split <;> rfl
@[simp] theorem Chip8.flipPixel_delay (c : Chip8) (x y : Nat) : (c.flipPixel x y).delay = c.delay := by unfold Chip8.flipPixel; split <;> rfl
@[simp] theorem Chip8.flipPixel_sound (c : Chip8) (x y : Nat) : (c.flipPixel x y).sound = c.sound := by unfold Chip8.flipPixel; split <;> rfl
@[simp] theorem Chip8.flipPixel_keys (c : Chip8) (x y : Nat) : (c.flipPixel x y).keys = c.keys := by unfold Chip8.flipPixel; split <;> rfl
@[simp] theorem Chip8.flipPixel_waitingForKey (c : Chip8) (x y : Nat) : (c.flipPixel x y).waitingForKey = c.waitingForKey := by unfold Chip8.flipPixel; split <;> rfl
@[simp] theorem Chip8.flipPixel_waitReg (c : Chip8) (x y : Nat) : (c.flipPixel x y).waitReg = c.waitReg := by unfold Chip8.flipPixel; split <;> rfl
@[simp] theorem Chip8.flipPixel_rngDraws (c : Chip8) (x y : Nat) : (c.flipPixel x y).rngDraws = c.rngDraws := by unfold Chip8.flipPixel; split <;> rfl
@[simp] theorem Chip8.flipPixel_image (c : Chip8) (x y : Nat) : (c.flipPixel x y).image = c.image := by unfold Chip8.flipPixel; split <;> rfl
@[simp] theorem Chip8.flipPixel_bells (c : Chip8) (x y : Nat) : (c.flipPixel x y).bells = c.bells := by unfold Chip8.flipPixel; split <;> rfl

@[simp] theorem Chip8.stepIndex_memory (c : Chip8) (x : Nibble) : (stepIndex x c).memory = c.memory := rfl
@[simp] theorem Chip8.stepIndex_v (c : Chip8) (x : Nibble) : (stepIndex x c).v = c.v := rfl
@[simp] theorem Chip8.stepIndex_i (c : Chip8) (x : Nibble) : (stepIndex x c).i = c.i + x.setWidth 12 + 1 := rfl
@[simp] theorem Chip8.stepIndex_pc (c : Chip8) (x : Nibble) : (stepIndex x c).pc = c.pc := rfl
@[simp] theorem Chip8.stepIndex_stack (c : Chip8) (x : Nibble) : (stepIndex x c).stack = c.stack := rfl
@[simp] theorem Chip8.stepIndex_sp (c : Chip8) (x : Nibble) : (stepIndex x c).sp = c.sp := rfl
@[simp] theorem Chip8.stepIndex_delay (c : Chip8) (x : Nibble) : (stepIndex x c).delay = c.delay := rfl
@[simp] theorem Chip8.stepIndex_sound (c : Chip8) (x : Nibble) : (stepIndex x c).sound = c.sound := rfl
@[simp] theorem Chip8.stepIndex_gfx (c : Chip8) (x : Nibble) : (stepIndex x c).gfx = c.gfx := rfl
@[simp] theorem Chip8.stepIndex_keys (c : Chip8) (x : Nibble) : (stepIndex x c).keys = c.keys := rfl
@[simp] theorem Chip8.stepIndex_waitingForKey (c : Chip8) (x : Nibble) : (stepIndex x c).waitingForKey = c.waitingForKey := rfl
@[simp] theorem Chip8.stepIndex_waitReg (c : Chip8) (x : Nibble) : (stepIndex x c).waitReg = c.waitReg := rfl
@[simp] theorem Chip8.stepIndex_rngDraws (c : Chip8) (x : Nibble) : (stepIndex x c).rngDraws = c.rngDraws := rfl
@[simp] theorem Chip8.stepIndex_image (c : Chip8) (x : Nibble) : (stepIndex x c).image = c.image := rfl
@[simp] theorem Chip8.stepIndex_bells (c : Chip8) (x : Nibble) : (stepIndex x c).bells = c.bells := rfl

end Sys2Proof.Machine
end

