-- ==== Sys2Proof/Laws/Bus.lean ====
section
/-! SUPPORT. The laws of the Game Boy machine's accesses: what a byte write leaves alone, that it keeps the canonical form, and what a
read depends on. -/

namespace Sys2Proof.Machine

/-- A cell after a stored byte. -/
theorem GameBoy.cell_setCell {g : GameBoy} (hw : Memory.wf busInit g.mem = true) (k j : Nat) (v : Byte) :
    (g.setCell k v).cell j = if j = k then v else g.cell j :=
  Memory.read_write hw k j

theorem GameBoy.wf_setCell {g : GameBoy} (hw : Memory.wf busInit g.mem = true) (k : Nat) (v : Byte) :
    Memory.wf busInit (g.setCell k v).mem = true :=
  Memory.wf_write hw

/-- Whatever does not look at `mem` or the latches is the same after an OAM copy. -/
theorem GameBoy.oamDma_keeps {β : Type} (f : GameBoy → β) (hf : ∀ (g : GameBoy) m, f { g with mem := m } = f g) (g : GameBoy)
    (v : Byte) : f (g.oamDma v) = f g := by
  unfold GameBoy.oamDma
  suffices h : ∀ (l : List Nat) (g : GameBoy) src, f (l.foldl (GameBoy.dmaByte src) g) = f g from h _ g _
  intro l
  induction l with
  | nil => intro g src; rfl
  | cons k rest ih => intro g src; rw [List.foldl_cons, ih]; exact hf g _

/-- Whatever does not look at `mem` or the latches is the same after a byte write. -/
theorem GameBoy.memWrite_keeps {β : Type} (f : GameBoy → β)
    (hf : ∀ (g : GameBoy) m b r, f { g with mem := m, romBank := b, ramEnabled := r } = f g) (g : GameBoy) (a : Word) (v : Byte) :
    f (g.memWrite a v) = f g := by
  have hs : ∀ (g : GameBoy) k v, f (g.setCell k v) = f g := fun g k v => hf g _ _ _
  unfold GameBoy.memWrite
  split
  · exact hf g _ _ _
  · exact hf g _ _ _
  · rfl
  · split
    · exact hs _ _ _
    · rfl
  · rfl
  · exact hs _ _ _
  · rw [GameBoy.oamDma_keeps f (fun g m => hf g m _ _)]; exact hs _ _ _
  all_goals exact hs _ _ _

section
variable (g : GameBoy) (addr : Word) (v : Byte)

@[simp] theorem GameBoy.memWrite_a : (g.memWrite addr v).a = g.a := GameBoy.memWrite_keeps (·.a) (fun _ _ _ _ => rfl) g addr v
@[simp] theorem GameBoy.memWrite_f : (g.memWrite addr v).f = g.f := GameBoy.memWrite_keeps (·.f) (fun _ _ _ _ => rfl) g addr v
@[simp] theorem GameBoy.memWrite_b : (g.memWrite addr v).b = g.b := GameBoy.memWrite_keeps (·.b) (fun _ _ _ _ => rfl) g addr v
@[simp] theorem GameBoy.memWrite_c : (g.memWrite addr v).c = g.c := GameBoy.memWrite_keeps (·.c) (fun _ _ _ _ => rfl) g addr v
@[simp] theorem GameBoy.memWrite_d : (g.memWrite addr v).d = g.d := GameBoy.memWrite_keeps (·.d) (fun _ _ _ _ => rfl) g addr v
@[simp] theorem GameBoy.memWrite_e : (g.memWrite addr v).e = g.e := GameBoy.memWrite_keeps (·.e) (fun _ _ _ _ => rfl) g addr v
@[simp] theorem GameBoy.memWrite_h : (g.memWrite addr v).h = g.h := GameBoy.memWrite_keeps (·.h) (fun _ _ _ _ => rfl) g addr v
@[simp] theorem GameBoy.memWrite_l : (g.memWrite addr v).l = g.l := GameBoy.memWrite_keeps (·.l) (fun _ _ _ _ => rfl) g addr v
@[simp] theorem GameBoy.memWrite_sp : (g.memWrite addr v).sp = g.sp := GameBoy.memWrite_keeps (·.sp) (fun _ _ _ _ => rfl) g addr v
@[simp] theorem GameBoy.memWrite_pc : (g.memWrite addr v).pc = g.pc := GameBoy.memWrite_keeps (·.pc) (fun _ _ _ _ => rfl) g addr v
@[simp] theorem GameBoy.memWrite_ime : (g.memWrite addr v).ime = g.ime :=
  GameBoy.memWrite_keeps (·.ime) (fun _ _ _ _ => rfl) g addr v
@[simp] theorem GameBoy.memWrite_halted : (g.memWrite addr v).halted = g.halted :=
  GameBoy.memWrite_keeps (·.halted) (fun _ _ _ _ => rfl) g addr v
@[simp] theorem GameBoy.memWrite_rom : (g.memWrite addr v).rom = g.rom :=
  GameBoy.memWrite_keeps (·.rom) (fun _ _ _ _ => rfl) g addr v
@[simp] theorem GameBoy.memWrite_romLen : (g.memWrite addr v).romLen = g.romLen :=
  GameBoy.memWrite_keeps (·.romLen) (fun _ _ _ _ => rfl) g addr v
@[simp] theorem GameBoy.memWrite_buttons : (g.memWrite addr v).buttons = g.buttons :=
  GameBoy.memWrite_keeps (·.buttons) (fun _ _ _ _ => rfl) g addr v
@[simp] theorem GameBoy.memWrite_scanlineCounter : (g.memWrite addr v).scanlineCounter = g.scanlineCounter :=
  GameBoy.memWrite_keeps (·.scanlineCounter) (fun _ _ _ _ => rfl) g addr v
@[simp] theorem GameBoy.memWrite_frameReady : (g.memWrite addr v).frameReady = g.frameReady :=
  GameBoy.memWrite_keeps (·.frameReady) (fun _ _ _ _ => rfl) g addr v
@[simp] theorem GameBoy.memWrite_framebuffer : (g.memWrite addr v).framebuffer = g.framebuffer :=
  GameBoy.memWrite_keeps (·.framebuffer) (fun _ _ _ _ => rfl) g addr v
@[simp] theorem GameBoy.memWrite_cycles : (g.memWrite addr v).cycles = g.cycles :=
  GameBoy.memWrite_keeps (·.cycles) (fun _ _ _ _ => rfl) g addr v
@[simp] theorem GameBoy.memWrite_epoch : (g.memWrite addr v).epoch = g.epoch :=
  GameBoy.memWrite_keeps (·.epoch) (fun _ _ _ _ => rfl) g addr v

end

/-- A read depends on the stores, the latches, the buttons and the draw counter alone. -/
theorem GameBoy.memRead_congr {g g' : GameBoy} (hm : g'.mem = g.mem) (hr : g'.rom = g.rom) (hl : g'.romLen = g.romLen)
    (hb : g'.romBank = g.romBank) (he : g'.ramEnabled = g.ramEnabled) (hk : g'.buttons = g.buttons)
    (hp : g'.epoch = g.epoch) (slot : ReadSlot) (a : Word) : g'.memRead slot a = g.memRead slot a := by
  unfold GameBoy.memRead GameBoy.joypad GameBoy.romByte GameBoy.cell
  rw [hm, hr, hl, hb, he, hk, hp]

/-- A byte write does the same to two states that differ only in registers: it commutes with any update that the bus does not see. -/
theorem GameBoy.memWrite_comm (u : GameBoy → GameBoy)
    (hu : ∀ (g : GameBoy) m b r, u { g with mem := m, romBank := b, ramEnabled := r } =
      { u g with mem := m, romBank := b, ramEnabled := r })
    (hr : ∀ (g : GameBoy) slot a, (u g).memRead slot a = g.memRead slot a)
    (hm : ∀ g, (u g).mem = g.mem) (hb : ∀ g, (u g).romBank = g.romBank) (he : ∀ g, (u g).ramEnabled = g.ramEnabled)
    (g : GameBoy) (a : Word) (v : Byte) : (u g).memWrite a v = u (g.memWrite a v) := by
  have hs : ∀ (g : GameBoy) k v, (u g).setCell k v = u (g.setCell k v) := by
    intro g k v
    have h := hu g (Memory.write busInit g.mem k v) g.romBank g.ramEnabled
    simp only [GameBoy.setCell, hm]
    rw [← hb g, ← he g] at h
    have e1 : ({ g with mem := Memory.write busInit g.mem k v, romBank := (u g).romBank, ramEnabled := (u g).ramEnabled }
      : GameBoy) = { g with mem := Memory.write busInit g.mem k v } := by rw [hb g, he g]
    rw [e1] at h
    exact h.symm
  have hd : ∀ (l : List Nat) (g : GameBoy) src, l.foldl (GameBoy.dmaByte src) (u g) = u (l.foldl (GameBoy.dmaByte src) g) := by
    intro l
    induction l with
    | nil => intro g src; rfl
    | cons k rest ih =>
      intro g src
      rw [List.foldl_cons, List.foldl_cons, ← ih]
      congr 1
      unfold GameBoy.dmaByte
      rw [hr, hs]
  unfold GameBoy.memWrite GameBoy.oamDma
  split
  · have h := hu g g.mem g.romBank (v &&& 0x0F == 0x0A)
    have e : ({ g with mem := g.mem, romBank := g.romBank, ramEnabled := (v &&& 0x0F == 0x0A) } : GameBoy) =
      { g with ramEnabled := (v &&& 0x0F == 0x0A) } := rfl
    rw [e] at h
    rw [h, ← hm g, ← hb g]
  · have h := hu g g.mem (bankOf v) g.ramEnabled
    have e : ({ g with mem := g.mem, romBank := bankOf v, ramEnabled := g.ramEnabled } : GameBoy) =
      { g with romBank := bankOf v } := rfl
    rw [e] at h
    rw [h, ← hm g, ← he g]
  · rfl
  · rw [he]; split
    · exact hs _ _ _
    · rfl
  · rfl
  · exact hs _ _ _
  · rw [hs, hd]
  all_goals exact hs _ _ _

/-- The OAM copy keeps the canonical form. -/
theorem GameBoy.wf_oamDma {g : GameBoy} (hw : Memory.wf busInit g.mem = true) (v : Byte) :
    Memory.wf busInit (g.oamDma v).mem = true := by
  unfold GameBoy.oamDma
  suffices h : ∀ (l : List Nat) (g : GameBoy) src, Memory.wf busInit g.mem = true →
      Memory.wf busInit (l.foldl (GameBoy.dmaByte src) g).mem = true from h _ g _ hw
  intro l
  induction l with
  | nil => intro g src h; exact h
  | cons k rest ih => intro g src h; exact ih _ _ (GameBoy.wf_setCell h _ _)

/-- A byte write keeps the canonical form. -/
theorem GameBoy.wf_memWrite {g : GameBoy} (hw : Memory.wf busInit g.mem = true) (a : Word) (v : Byte) :
    Memory.wf busInit (g.memWrite a v).mem = true := by
  unfold GameBoy.memWrite
  split
  case h_4 => split; exacts [GameBoy.wf_setCell hw _ _, hw]
  case h_7 => exact GameBoy.wf_oamDma (GameBoy.wf_setCell hw _ _) v
  all_goals first | exact hw | exact GameBoy.wf_setCell hw _ _

/-- A cell outside `oam` is the same after an OAM copy. -/
theorem GameBoy.cell_oamDma_other {g : GameBoy} (hw : Memory.wf busInit g.mem = true) (v : Byte) {j : Nat}
    (hj : j < 0xFE00 ∨ 0xFEA0 ≤ j) : (g.oamDma v).cell j = g.cell j := by
  unfold GameBoy.oamDma
  suffices h : ∀ (l : List Nat) (g : GameBoy) src, (∀ k ∈ l, k < 160) → Memory.wf busInit g.mem = true →
      (l.foldl (GameBoy.dmaByte src) g).cell j = g.cell j from
    h _ g _ (fun k hk => List.mem_range.mp hk) hw
  intro l
  induction l with
  | nil => intros; rfl
  | cons k rest ih =>
    intro g src hl h
    have hk := hl k List.mem_cons_self
    have hc : (GameBoy.dmaByte src g k).cell j = g.cell j := by
      unfold GameBoy.dmaByte
      rw [GameBoy.cell_setCell h, if_neg (by omega)]
    rw [List.foldl_cons, ih (GameBoy.dmaByte src g k) src (fun i hi => hl i (List.mem_cons_of_mem _ hi))
      (GameBoy.wf_setCell h _ _), hc]

/-! ## The ranges as numbers -/

/-- The addresses of a range (rules R61, R62). -/
def regionBounds : Region → Nat → Prop
  | .ramGate, k => k < 0x2000
  | .bankSelect, k => 0x2000 ≤ k ∧ k < 0x4000
  | .romWindow, k => 0x4000 ≤ k ∧ k < 0x8000
  | .vram, k => 0x8000 ≤ k ∧ k < 0xA000
  | .eram, k => 0xA000 ≤ k ∧ k < 0xC000
  | .wram, k => 0xC000 ≤ k ∧ k < 0xE000
  | .echo, k => 0xE000 ≤ k ∧ k < 0xFE00
  | .oam, k => 0xFE00 ≤ k ∧ k < 0xFEA0
  | .unusable, k => 0xFEA0 ≤ k ∧ k < 0xFF00
  | .joypad, k => k = 0xFF00
  | .dma, k => k = 0xFF46
  | .io, k => 0xFF00 < k ∧ k < 0xFF80 ∧ k ≠ 0xFF46
  | .hram, k => 0xFF80 ≤ k ∧ k < 0xFFFF
  | .ie, k => k = 0xFFFF

theorem ite_bounds {p : Prop} [Decidable p] {r r' : Region} {k : Nat} (h : p → regionBounds r k) (h' : ¬p → regionBounds r' k) :
    regionBounds (if p then r else r') k := by
  split
  · exact h ‹_›
  · exact h' ‹_›

/-- An address lies in its range. -/
theorem regionOf_bounds (a : Word) : regionBounds (regionOf a) a.toNat := by
  have hlt := a.isLt
  unfold regionOf
  simp only
  repeat' (refine ite_bounds (fun _ => ?_) (fun _ => ?_))
  all_goals simp only [regionBounds]
  all_goals omega

/-- The ranges are disjoint. -/
theorem regionBounds_unique {r r' : Region} {k : Nat} (h : regionBounds r k) (h' : regionBounds r' k) : r = r' := by
  cases r <;> cases r' <;> first | rfl | (simp only [regionBounds] at h h'; omega)

/-- The range of an address, by its number. -/
theorem regionOf_eq_iff {a : Word} {r : Region} : regionOf a = r ↔ regionBounds r a.toNat :=
  ⟨fun h => h ▸ regionOf_bounds a, fun h => regionBounds_unique (regionOf_bounds a) h⟩

/-! ## What a byte write does to the cells and the latches -/

/-- Only a bank-select write changes the bank. -/
theorem GameBoy.memWrite_romBank {g : GameBoy} {a : Word} {v : Byte} (h : regionOf a ≠ .bankSelect) :
    (g.memWrite a v).romBank = g.romBank := by
  unfold GameBoy.memWrite
  cases hr : regionOf a
  case bankSelect => exact absurd hr h
  case dma => exact GameBoy.oamDma_keeps (·.romBank) (fun _ _ => rfl) _ _
  case eram => simp only; split <;> rfl
  all_goals rfl

/-- Only a bank-enable write changes the gate of `eram`. -/
theorem GameBoy.memWrite_ramEnabled {g : GameBoy} {a : Word} {v : Byte} (h : regionOf a ≠ .ramGate) :
    (g.memWrite a v).ramEnabled = g.ramEnabled := by
  unfold GameBoy.memWrite
  cases hr : regionOf a
  case ramGate => exact absurd hr h
  case dma => exact GameBoy.oamDma_keeps (·.ramEnabled) (fun _ _ => rfl) _ _
  case eram => simp only; split <;> rfl
  all_goals rfl

/-- Only the echo range is kept elsewhere than at its own address. -/
theorem storageAddr_eq {a : Word} (h : regionOf a ≠ .echo) : storageAddr a = a.toNat := by
  unfold storageAddr
  split
  · contradiction
  · rfl

/-- A plain write stores one cell. -/
theorem GameBoy.memWrite_plain (g : GameBoy) {a : Word} (v : Byte) (h : plainStorage a = true) (hd : regionOf a ≠ .dma) :
    g.memWrite a v = g.setCell (storageAddr a) v := by
  unfold plainStorage at h
  unfold GameBoy.memWrite
  cases hr : regionOf a <;> rw [hr] at h <;> contradiction

/-- A read of plain storage is its cell. -/
theorem GameBoy.memRead_plain (g : GameBoy) (slot : ReadSlot) {a : Word} (h : plainStorage a = true) :
    g.memRead slot a = g.cell (storageAddr a) := by
  unfold plainStorage at h
  unfold GameBoy.memRead
  cases hr : regionOf a <;> rw [hr] at h <;> contradiction

/-- A byte write changes no cell but the one behind its address, and `oam` by a DMA write. -/
theorem GameBoy.cell_memWrite_other {g : GameBoy} (hw : Memory.wf busInit g.mem = true) (a : Word) (v : Byte) {j : Nat}
    (h : j ≠ storageAddr a) (hd : regionOf a = .dma → j < 0xFE00 ∨ 0xFEA0 ≤ j) : (g.memWrite a v).cell j = g.cell j := by
  by_cases hp : plainStorage a = true
  · by_cases hdma : regionOf a = .dma
    · have e : g.memWrite a v = (g.setCell 0xFF46 v).oamDma v := by unfold GameBoy.memWrite; rw [hdma]
      have hb := regionOf_eq_iff.mp hdma
      simp only [regionBounds] at hb
      rw [storageAddr_eq (by rw [hdma]; decide)] at h
      rw [e, GameBoy.cell_oamDma_other (GameBoy.wf_setCell hw _ _) _ (hd hdma), GameBoy.cell_setCell hw, if_neg (by omega)]
    · rw [GameBoy.memWrite_plain g v hp hdma, GameBoy.cell_setCell hw, if_neg h]
  · unfold plainStorage at hp
    have hb := regionOf_bounds a
    unfold GameBoy.memWrite
    cases hr : regionOf a <;> rw [hr] at hp hb <;> simp only [regionBounds] at hb
    case eram =>
      rw [storageAddr_eq (by rw [hr]; decide)] at h
      simp only
      split
      · rw [GameBoy.cell_setCell hw, if_neg h]
      · rfl
    case joypad =>
      rw [storageAddr_eq (by rw [hr]; decide), hb] at h
      simp only
      rw [GameBoy.cell_setCell hw, if_neg h]
    all_goals first | exact absurd rfl hp | rfl

end Sys2Proof.Machine
end

