-- ==== Sys2Proof/Laws/Chip8.lean ====
section
/-! SUPPORT. What the shared operations of the CHIP-8 machine do: register and memory writes, pixel flips, the stored image. -/

namespace Sys2Proof.Machine

/-- A register write, read at any register. -/
theorem Chip8.reg_setReg (c : Chip8) (x k : Nibble) (v : Byte) : (c.setReg x v).reg k = if k = x then v else c.reg k := by
  unfold Chip8.reg Chip8.setReg
  simp only [Vector.getElem_set]
  by_cases h : k = x
  · simp [h]
  · rw [if_neg h, if_neg]
    exact fun e => h (BitVec.eq_of_toNat_eq e.symm)

/-- `VF` is written last, so it holds the flag whatever `x` is. -/
theorem Chip8.reg_setRegFlag (c : Chip8) (x k : Nibble) (v : Byte) (flag : Bool) :
    (c.setRegFlag x v flag).reg k = if k = 0xF then (if flag then 1 else 0) else if k = x then v else c.reg k := by
  unfold Chip8.setRegFlag
  rw [Chip8.reg_setReg, Chip8.reg_setReg]

/-- A register write leaves everything but the registers. -/
theorem Chip8.setReg_keeps (c : Chip8) (x : Nibble) (v : Byte) : { c.setReg x v with v := c.v } = c := rfl

theorem Chip8.setRegFlag_keeps (c : Chip8) (x : Nibble) (v : Byte) (flag : Bool) :
    { c.setRegFlag x v flag with v := c.v } = c := rfl

/-- A byte store, read at any address. -/
theorem Chip8.load_store {c : Chip8} (hw : Memory.wf ch8Init c.memory = true) (a b : Addr12) (v : Byte) :
    (c.store a v).load b = if b = a then v else c.load b := by
  unfold Chip8.load Chip8.store
  rw [Memory.read_write hw]
  by_cases h : b = a
  · rw [if_pos h, if_pos (by rw [h])]
  · rw [if_neg h, if_neg (fun e => h (BitVec.eq_of_toNat_eq e))]

/-- A byte store keeps the canonical form. -/
theorem Chip8.wf_store {c : Chip8} (hw : Memory.wf ch8Init c.memory = true) (a : Addr12) (v : Byte) :
    Memory.wf ch8Init (c.store a v).memory = true :=
  Memory.wf_write hw

/-- A byte store stays inside the memory. -/
theorem Chip8.below_store {c : Chip8} (hb : Memory.below 4096 c.memory = true) (a : Addr12) (v : Byte) :
    Memory.below 4096 (c.store a v).memory = true :=
  Memory.below_write hb a.isLt

/-- A byte store leaves everything but the memory. -/
theorem Chip8.store_keeps (c : Chip8) (a : Addr12) (v : Byte) : { c.store a v with memory := c.memory } = c := rfl

/-- A pixel flip, read at any pixel. -/
theorem Chip8.pixel_flipPixel (c : Chip8) {x y : Nat} (hx : x < 64) (hy : y < 32) (px py : Nat) :
    (c.flipPixel x y).pixel px py = (c.pixel px py ^^ decide (px = x ∧ py = y)) := by
  unfold Chip8.flipPixel Chip8.pixel
  rw [dif_pos hy]
  by_cases h : py < 32
  · simp only [dif_pos h, Vector.getElem_set]
    by_cases hpy : y = py
    · subst hpy
      by_cases hpx : px = x
      · subst hpx
        simp [hx]
      · have : x ≠ px := fun e => hpx e.symm
        simp [BitVec.getLsbD_twoPow, hpx, this]
    · have : py ≠ y := fun e => hpy e.symm
      simp [hpy, this]
  · have : py ≠ y := by omega
    simp [h, this]

/-- A pixel flip leaves everything but the display. -/
theorem Chip8.flipPixel_keeps (c : Chip8) (x y : Nat) : { c.flipPixel x y with gfx := c.gfx } = c := by
  unfold Chip8.flipPixel
  split <;> rfl

/-- A row of a sprite changes nothing but `VF` and the display. -/
theorem drawRow_keeps (x0 y0 : Nat) (c : Chip8) (row : Nat) :
    { drawRow x0 y0 c row with v := c.v, gfx := c.gfx } = c := by
  unfold drawRow
  split
  · suffices h : ∀ (l : List Nat) (d : Chip8) py b, { l.foldl (drawColumn x0 py b) d with v := d.v, gfx := d.gfx } = d from
      h _ _ _ _
    intro l
    induction l with
    | nil => intros; rfl
    | cons k rest ih =>
      intro d py b
      rw [List.foldl_cons]
      have h := ih (drawColumn x0 py b d k) py b
      have hk : { drawColumn x0 py b d k with v := d.v, gfx := d.gfx } = d := by
        unfold drawColumn Chip8.flipPixel Chip8.setReg
        simp only
        split
        · split <;> split <;> rfl
        · rfl
      generalize rest.foldl (drawColumn x0 py b) (drawColumn x0 py b d k) = e at h ⊢
      generalize drawColumn x0 py b d k = m at h hk
      cases e; cases m; cases d
      simp only [Chip8.mk.injEq] at h hk ⊢
      simp_all
  · rfl

/-- The memory of a loaded image is canonical. -/
theorem Chip8.wf_ofImage (bytes : List Byte) : Memory.wf ch8Init (Chip8.ofImage bytes).memory = true :=
  Memory.wf_ofBytes ch8Init bytes 0x200

end Sys2Proof.Machine
end

