-- ==== Sys2Proof/Laws/Decode.lean ====
section
/-! SUPPORT. The bit fields of the encodings: byte order, and the fields of a CHIP-8 word in each of its formats. -/

namespace Sys2Proof

/-- A concatenation as a number. -/
theorem toNat_join {n m : Nat} (x : BitVec n) (y : BitVec m) : (x ++ y).toNat = x.toNat * 2 ^ m + y.toNat := by
  rw [BitVec.toNat_append, ← Nat.shiftLeft_add_eq_or_of_lt y.isLt, Nat.shiftLeft_eq]

theorem toNat_lowByte (w : Word) : (lowByte w).toNat = w.toNat % 256 := by
  simp [lowByte]

theorem toNat_highByte (w : Word) : (highByte w).toNat = w.toNat / 256 := by
  have := w.isLt
  simp only [highByte, BitVec.toNat_setWidth, BitVec.toNat_ushiftRight, Nat.shiftRight_eq_div_pow]
  omega

theorem toNat_joinBytes (hi lo : Byte) : (joinBytes hi lo).toNat = hi.toNat * 256 + lo.toNat := toNat_join hi lo

/-- A word is its two bytes. -/
@[simp] theorem joinBytes_high_low (w : Word) : joinBytes (highByte w) (lowByte w) = w := by
  apply BitVec.eq_of_toNat_eq
  rw [toNat_joinBytes, toNat_highByte, toNat_lowByte]
  omega

@[simp] theorem lowByte_joinBytes (hi lo : Byte) : lowByte (joinBytes hi lo) = lo := by
  have := lo.isLt
  apply BitVec.eq_of_toNat_eq
  rw [toNat_lowByte, toNat_joinBytes]
  omega

@[simp] theorem highByte_joinBytes (hi lo : Byte) : highByte (joinBytes hi lo) = hi := by
  have := lo.isLt
  apply BitVec.eq_of_toNat_eq
  rw [toNat_highByte, toNat_joinBytes]
  omega

/-! ## The fields of a CHIP-8 word -/

/-- Format NNN. -/
theorem ch8NNN_fields (m : Nibble) (nnn : Addr12) : ch8Major (ch8NNN m nnn) = m.toNat ∧ ch8Nnn (ch8NNN m nnn) = nnn := by
  have := nnn.isLt
  constructor
  · simp only [ch8Major, ch8NNN, toNat_join]
    omega
  · apply BitVec.eq_of_toNat_eq
    simp only [ch8Nnn, ch8NNN, toNat_join, BitVec.toNat_setWidth]
    omega

/-- Format XNN. -/
theorem ch8XNN_fields (m x : Nibble) (nn : Byte) :
    ch8Major (ch8XNN m x nn) = m.toNat ∧ ch8X (ch8XNN m x nn) = x ∧ lowByte (ch8XNN m x nn) = nn := by
  have := nn.isLt
  have := x.isLt
  refine ⟨?_, ?_, ?_⟩
  · simp only [ch8Major, ch8XNN, toNat_join]
    omega
  · apply BitVec.eq_of_toNat_eq
    simp only [ch8X, ch8XNN, toNat_join, BitVec.toNat_setWidth, BitVec.toNat_ushiftRight, Nat.shiftRight_eq_div_pow]
    omega
  · apply BitVec.eq_of_toNat_eq
    simp only [lowByte, ch8XNN, toNat_join, BitVec.toNat_setWidth]
    omega

/-- Format XYN. -/
theorem ch8XYN_fields (m x y n : Nibble) :
    ch8Major (ch8XYN m x y n) = m.toNat ∧ ch8X (ch8XYN m x y n) = x ∧ ch8Y (ch8XYN m x y n) = y ∧
      ch8N (ch8XYN m x y n) = n := by
  have := n.isLt
  have := x.isLt
  have := y.isLt
  refine ⟨?_, ?_, ?_, ?_⟩
  · simp only [ch8Major, ch8XYN, toNat_join]
    omega
  all_goals
    apply BitVec.eq_of_toNat_eq
    simp only [ch8X, ch8Y, ch8N, ch8XYN, toNat_join, BitVec.toNat_setWidth, BitVec.toNat_ushiftRight,
      Nat.shiftRight_eq_div_pow]
    omega

end Sys2Proof
end

