-- ==== Sys2Proof/Laws/Ops.lean ====
section
/-! SUPPORT. What the shared operations of the Game Boy machine can do: the two-byte store, the push, interrupt entry and return, the
operand write, and the placing of bytes; each keeps the canonical form of memory. -/

namespace Sys2Proof.Machine

/-! ## The two-byte store and the push -/

/-- Whatever a byte write leaves alone, a two-byte store leaves alone. -/
theorem GameBoy.memWrite16_keeps {β : Type} (f : GameBoy → β)
    (hf : ∀ (g : GameBoy) m b r, f { g with mem := m, romBank := b, ramEnabled := r } = f g) (g : GameBoy) (a v : Word) :
    f (g.memWrite16 a v) = f g := by
  unfold GameBoy.memWrite16
  rw [GameBoy.memWrite_keeps f hf, GameBoy.memWrite_keeps f hf]

/-- A push changes the stack pointer and what two byte writes can change, nothing else. -/
theorem GameBoy.push16_keeps {β : Type} (f : GameBoy → β)
    (hf : ∀ (g : GameBoy) m b r p, f { g with mem := m, romBank := b, ramEnabled := r, sp := p } = f g) (g : GameBoy) (v : Word) :
    f (g.push16 v) = f g := by
  have hw : ∀ (g : GameBoy) m b r, f { g with mem := m, romBank := b, ramEnabled := r } = f g := fun g m b r => hf g m b r g.sp
  have hs : ∀ (g : GameBoy) p, f { g with sp := p } = f g := fun g p => hf g g.mem g.romBank g.ramEnabled p
  unfold GameBoy.push16
  simp only
  rw [GameBoy.memWrite_keeps f hw, hs, GameBoy.memWrite_keeps f hw, hs]

section

variable (g : GameBoy) (v : Word)

@[simp] theorem GameBoy.push16_sp : (g.push16 v).sp = g.sp - 2 := by
  unfold GameBoy.push16
  simp
@[simp] theorem GameBoy.push16_a : (g.push16 v).a = g.a :=
  GameBoy.push16_keeps (·.a) (fun _ _ _ _ _ => rfl) g v
@[simp] theorem GameBoy.push16_f : (g.push16 v).f = g.f :=
  GameBoy.push16_keeps (·.f) (fun _ _ _ _ _ => rfl) g v
@[simp] theorem GameBoy.push16_b : (g.push16 v).b = g.b :=
  GameBoy.push16_keeps (·.b) (fun _ _ _ _ _ => rfl) g v
@[simp] theorem GameBoy.push16_c : (g.push16 v).c = g.c :=
  GameBoy.push16_keeps (·.c) (fun _ _ _ _ _ => rfl) g v
@[simp] theorem GameBoy.push16_d : (g.push16 v).d = g.d :=
  GameBoy.push16_keeps (·.d) (fun _ _ _ _ _ => rfl) g v
@[simp] theorem GameBoy.push16_e : (g.push16 v).e = g.e :=
  GameBoy.push16_keeps (·.e) (fun _ _ _ _ _ => rfl) g v
@[simp] theorem GameBoy.push16_h : (g.push16 v).h = g.h :=
  GameBoy.push16_keeps (·.h) (fun _ _ _ _ _ => rfl) g v
@[simp] theorem GameBoy.push16_l : (g.push16 v).l = g.l :=
  GameBoy.push16_keeps (·.l) (fun _ _ _ _ _ => rfl) g v
@[simp] theorem GameBoy.push16_pc : (g.push16 v).pc = g.pc :=
  GameBoy.push16_keeps (·.pc) (fun _ _ _ _ _ => rfl) g v
@[simp] theorem GameBoy.push16_ime : (g.push16 v).ime = g.ime :=
  GameBoy.push16_keeps (·.ime) (fun _ _ _ _ _ => rfl) g v
@[simp] theorem GameBoy.push16_halted : (g.push16 v).halted = g.halted :=
  GameBoy.push16_keeps (·.halted) (fun _ _ _ _ _ => rfl) g v
@[simp] theorem GameBoy.push16_rom : (g.push16 v).rom = g.rom :=
  GameBoy.push16_keeps (·.rom) (fun _ _ _ _ _ => rfl) g v
@[simp] theorem GameBoy.push16_romLen : (g.push16 v).romLen = g.romLen :=
  GameBoy.push16_keeps (·.romLen) (fun _ _ _ _ _ => rfl) g v
@[simp] theorem GameBoy.push16_buttons : (g.push16 v).buttons = g.buttons :=
  GameBoy.push16_keeps (·.buttons) (fun _ _ _ _ _ => rfl) g v
@[simp] theorem GameBoy.push16_scanlineCounter : (g.push16 v).scanlineCounter = g.scanlineCounter :=
  GameBoy.push16_keeps (·.scanlineCounter) (fun _ _ _ _ _ => rfl) g v
@[simp] theorem GameBoy.push16_frameReady : (g.push16 v).frameReady = g.frameReady :=
  GameBoy.push16_keeps (·.frameReady) (fun _ _ _ _ _ => rfl) g v
@[simp] theorem GameBoy.push16_framebuffer : (g.push16 v).framebuffer = g.framebuffer :=
  GameBoy.push16_keeps (·.framebuffer) (fun _ _ _ _ _ => rfl) g v
@[simp] theorem GameBoy.push16_cycles : (g.push16 v).cycles = g.cycles :=
  GameBoy.push16_keeps (·.cycles) (fun _ _ _ _ _ => rfl) g v
@[simp] theorem GameBoy.push16_epoch : (g.push16 v).epoch = g.epoch :=
  GameBoy.push16_keeps (·.epoch) (fun _ _ _ _ _ => rfl) g v

end

/-- A push keeps the canonical form. -/
theorem GameBoy.wf_push16 {g : GameBoy} (hw : Memory.wf busInit g.mem = true) (v : Word) :
    Memory.wf busInit (g.push16 v).mem = true := by
  unfold GameBoy.push16
  simp only
  apply GameBoy.wf_memWrite
  apply GameBoy.wf_memWrite
  exact hw

/-- A two-byte store keeps the canonical form. -/
theorem GameBoy.wf_memWrite16 {g : GameBoy} (hw : Memory.wf busInit g.mem = true) (a v : Word) :
    Memory.wf busInit (g.memWrite16 a v).mem = true :=
  GameBoy.wf_memWrite (GameBoy.wf_memWrite hw _ _) _ _

/-- An operand write keeps the canonical form. -/
theorem GameBoy.wf_put {g : GameBoy} (hw : Memory.wf busInit g.mem = true) (x : Operand) (v : Byte) :
    Memory.wf busInit (g.put x v).mem = true := by
  cases x with
  | reg r => simpa [GameBoy.put] using hw
  | atHL => exact GameBoy.wf_memWrite hw _ _

/-! ## Taking an interrupt -/

/-- Interrupt entry, register by register (rule R405). -/
theorem GameBoy.interruptEntry_registers (g : GameBoy) :
    g.interruptEntry.ime = false ∧ g.interruptEntry.pc = 0x0040 ∧ g.interruptEntry.sp = g.sp - 2 ∧
      g.interruptEntry.cycles = 20 ∧ g.interruptEntry.halted = g.halted ∧ g.interruptEntry.a = g.a ∧
      g.interruptEntry.f = g.f ∧ g.interruptEntry.bc = g.bc ∧ g.interruptEntry.de = g.de ∧ g.interruptEntry.hl = g.hl := by
  unfold GameBoy.interruptEntry GameBoy.spend GameBoy.bc GameBoy.de GameBoy.hl
  simp

/-- Interrupt entry keeps the canonical form. -/
theorem GameBoy.wf_interruptEntry {g : GameBoy} (hw : Memory.wf busInit g.mem = true) :
    Memory.wf busInit g.interruptEntry.mem = true := by
  unfold GameBoy.interruptEntry GameBoy.spend
  simp only
  apply GameBoy.wf_push16
  apply GameBoy.wf_memWrite
  exact hw

/-! ## Placing bytes -/

/-- Placing a byte keeps the canonical form of both stores. -/
theorem GameBoy.wf_place {g : GameBoy} (hw : Memory.wf busInit g.mem = true) (hr : Memory.wf romInit g.rom = true) (a : Word)
    (v : Byte) : Memory.wf busInit (g.place a v).mem = true ∧ Memory.wf romInit (g.place a v).rom = true := by
  unfold GameBoy.place
  split
  · exact ⟨hw, Memory.wf_write hr⟩
  · exact ⟨hw, Memory.wf_write hr⟩
  · exact ⟨hw, Memory.wf_write hr⟩
  · exact ⟨Memory.wf_write hw, hr⟩
  · exact ⟨Memory.wf_write hw, hr⟩

/-- So does placing several. -/
theorem GameBoy.wf_placeBytes {g : GameBoy} (hw : Memory.wf busInit g.mem = true) (hr : Memory.wf romInit g.rom = true)
    (bytes : List Byte) (a : Word) :
    Memory.wf busInit (g.placeBytes a bytes).mem = true ∧ Memory.wf romInit (g.placeBytes a bytes).rom = true := by
  induction bytes generalizing g a with
  | nil => exact ⟨hw, hr⟩
  | cons v rest ih =>
    obtain ⟨h1, h2⟩ := GameBoy.wf_place hw hr a v
    exact ih h1 h2 (a + 1)

/-- The image of a loaded ROM is canonical and inside its length. -/
theorem GameBoy.wf_loadImage (bytes : List Byte) (g : GameBoy) :
    Memory.wf romInit (g.loadImage bytes).rom = true ∧ Memory.below (g.loadImage bytes).romLen (g.loadImage bytes).rom = true := by
  refine ⟨Memory.wf_ofBytes romInit bytes 0, ?_⟩
  have h := Memory.below_ofBytes romInit bytes 0
  rwa [Nat.zero_add] at h

end Sys2Proof.Machine
end

