-- ==== Sys2Proof/Laws/Ppu.lean ====
section
/-! SUPPORT. What the PPU's operations can do: rendering a line, ending a line, and the loop over lines. -/

namespace Sys2Proof.Machine

/-- Rendering columns changes nothing but the framebuffer. -/
theorem GameBoy.drawPixels_keeps {β : Type} (f : GameBoy → β) (hf : ∀ (g : GameBoy) b, f { g with framebuffer := b } = f g)
    (line : Nat) (columns : List Nat) (g : GameBoy) : f (columns.foldl (GameBoy.drawPixel line) g) = f g := by
  induction columns generalizing g with
  | nil => rfl
  | cons col rest ih =>
    rw [List.foldl_cons, ih]
    exact hf g _

/-- A rendered line changes nothing but the framebuffer. -/
theorem GameBoy.renderScanline_keeps {β : Type} (f : GameBoy → β) (hf : ∀ (g : GameBoy) b, f { g with framebuffer := b } = f g)
    (line : Nat) (g : GameBoy) : f (g.renderScanline line) = f g :=
  GameBoy.drawPixels_keeps f hf line _ g

/-- Rendering columns keeps the canonical form of the framebuffer. -/
theorem GameBoy.wf_drawPixels {g : GameBoy} (hw : Memory.wf pixelInit g.framebuffer = true) (line : Nat) (columns : List Nat) :
    Memory.wf pixelInit (columns.foldl (GameBoy.drawPixel line) g).framebuffer = true := by
  induction columns generalizing g with
  | nil => exact hw
  | cons col rest ih => exact ih (g := GameBoy.drawPixel line g col) (Memory.wf_write hw)

/-- A rendered line keeps the canonical form of the framebuffer. -/
theorem GameBoy.wf_renderScanline {g : GameBoy} (hw : Memory.wf pixelInit g.framebuffer = true) (line : Nat) :
    Memory.wf pixelInit (g.renderScanline line).framebuffer = true :=
  GameBoy.wf_drawPixels hw line _

/-- The shade of a pixel does not depend on the framebuffer. -/
theorem GameBoy.shade_congr {g g' : GameBoy} (h : g'.mem = g.mem) (line col : Nat) : g'.shade line col = g.shade line col := by
  unfold GameBoy.shade GameBoy.colourIndex GameBoy.vramByte GameBoy.lcdc GameBoy.bgp GameBoy.scx GameBoy.scy GameBoy.cell
  rw [h]

/-- The parts of the end of a line, for any way of looking at the machine. -/
theorem GameBoy.lineEnd_parts (P : GameBoy → Prop) (g : GameBoy)
    (h0 : P { g with scanlineCounter := g.scanlineCounter - Config.lineCycles })
    (hr : ∀ g, P g → ∀ line, P (g.renderScanline line)) (hc : ∀ g, P g → ∀ k v, P (g.setCell k v))
    (hv : ∀ g, P g → P g.requestVblank) : P g.lineEnd := by
  have hite : ∀ (p : Prop) [Decidable p] (a b : GameBoy), P a → P b → P (if p then a else b) := by
    intro p _ a b ha hb
    split
    · exact ha
    · exact hb
  have h2 := hc _ (hite (g.ly.toNat < 144) _ _ (hr _ h0 g.ly.toNat) h0) 0xFF44 (nextLine g.ly)
  exact hite (nextLine g.ly = 144) _ _ (hv _ h2) h2

/-- The end of a line changes `LY`, `IF`, the counter, the frame signal and the framebuffer, and nothing else. -/
theorem GameBoy.lineEnd_keeps {β : Type} (f : GameBoy → β)
    (hf : ∀ (g : GameBoy) m b n r, f { g with mem := m, framebuffer := b, scanlineCounter := n, frameReady := r } = f g)
    (g : GameBoy) : f g.lineEnd = f g := by
  apply GameBoy.lineEnd_parts (fun g' => f g' = f g)
  · exact hf g g.mem g.framebuffer _ g.frameReady
  · intro g' h line
    rw [GameBoy.renderScanline_keeps f (fun g b => hf g g.mem b g.scanlineCounter g.frameReady), h]
  · intro g' h k v
    exact (hf g' _ g'.framebuffer g'.scanlineCounter g'.frameReady).trans h
  · intro g' h
    exact (hf g' _ g'.framebuffer g'.scanlineCounter true).trans h

/-- The end of a line takes one line's T-states off the counter. -/
theorem GameBoy.lineEnd_counter (g : GameBoy) : g.lineEnd.scanlineCounter = g.scanlineCounter - Config.lineCycles := by
  apply GameBoy.lineEnd_parts (fun g' => g'.scanlineCounter = g.scanlineCounter - Config.lineCycles)
  · rfl
  · intro g' h line
    rw [GameBoy.renderScanline_keeps (·.scanlineCounter) (fun _ _ => rfl), h]
  · intro g' h k v
    exact h
  · intro g' h
    exact h

/-- The end of a line keeps the canonical form of memory. -/
theorem GameBoy.wf_lineEnd {g : GameBoy} (hw : Memory.wf busInit g.mem = true) : Memory.wf busInit g.lineEnd.mem = true := by
  apply GameBoy.lineEnd_parts (fun g' => Memory.wf busInit g'.mem = true)
  · exact hw
  · intro g' h line
    rw [GameBoy.renderScanline_keeps (·.mem) (fun _ _ => rfl), h]
  · intro g' h k v
    exact GameBoy.wf_setCell h k v
  · intro g' h
    exact GameBoy.wf_setCell h _ _

/-- The loop leaves a counter below one line's T-states. -/
theorem GameBoy.lineLoop_counter (turns : Nat) (g : GameBoy) (h : g.scanlineCounter < Config.lineCycles * (turns + 1)) :
    (g.lineLoop turns).scanlineCounter < Config.lineCycles := by
  induction turns generalizing g with
  | zero => simpa [GameBoy.lineLoop] using h
  | succ k ih =>
    unfold GameBoy.lineLoop
    split
    · apply ih
      rw [GameBoy.lineEnd_counter]
      unfold Config.lineCycles at *
      omega
    · omega

/-- After an advance the counter is below one line's T-states, if it was before. -/
theorem GameBoy.ppuAdvance_counter {g : GameBoy} (h : g.scanlineCounter < Config.lineCycles) (n : Nat) :
    (g.ppuAdvance n).scanlineCounter < Config.lineCycles := by
  unfold GameBoy.ppuAdvance
  split
  · apply GameBoy.lineLoop_counter
    unfold Config.lineCycles
    simp only
    omega
  · exact h

end Sys2Proof.Machine
end

