-- ==== Sys2Proof/Laws/Step.lean ====
section
/-! SUPPORT. What a turn of the scheduler can be, and that the tight loop of rule R463 is an end of a run in the sense of decision D22. -/

namespace Sys2Proof.Machine

/-! ## The scheduler -/

theorem schedulerTurn_call (s : State) (c : HostCall) (rest : List HostEvent) (hn : s.tickSteps = 0)
    (hq : s.hostCalls = .call c :: rest) : schedulerTurn s = .next (State.hostApply c { s with hostCalls := rest }) := by
  simp only [schedulerTurn, hn, hq]

theorem schedulerTurn_stepFrame (s : State) (rest : List HostEvent) (hn : s.tickSteps = 0)
    (hq : s.hostCalls = .stepFrame :: rest) : schedulerTurn s = machineTurn { s with hostCalls := rest } := by
  simp only [schedulerTurn, hn, hq]

theorem schedulerTurn_noEvent (s : State) (h : s.tickSteps ≠ 0 ∨ s.hostCalls = []) : schedulerTurn s = machineTurn s := by
  unfold schedulerTurn
  split
  · simp_all
  · simp_all
  · rfl
  · rfl

/-- Everything a turn of the scheduler can be. -/
theorem schedulerTurn_cases (s : State) :
    (∃ c rest, s.tickSteps = 0 ∧ s.hostCalls = .call c :: rest ∧
      schedulerTurn s = .next (State.hostApply c { s with hostCalls := rest })) ∨
    (∃ rest, s.tickSteps = 0 ∧ s.hostCalls = .stepFrame :: rest ∧ schedulerTurn s = machineTurn { s with hostCalls := rest }) ∨
    ((s.tickSteps ≠ 0 ∨ s.hostCalls = []) ∧ schedulerTurn s = machineTurn s) := by
  by_cases hn : s.tickSteps = 0
  · match hq : s.hostCalls with
    | [] => exact .inr (.inr ⟨.inr rfl, schedulerTurn_noEvent s (.inr hq)⟩)
    | .call c :: rest => exact .inl ⟨c, rest, hn, rfl, schedulerTurn_call s c rest hn hq⟩
    | .stepFrame :: rest => exact .inr (.inl ⟨rest, hn, rfl, schedulerTurn_stepFrame s rest hn hq⟩)
  · exact .inr (.inr ⟨.inl hn, schedulerTurn_noEvent s (.inl hn)⟩)

/-- A turn of a machine, in the sense of the statements, is the step of that machine, and no flag holds it back. -/
theorem step_of_turnOf (s : State) (m : MachineId) (h : s.turnOf m) : step s = machineTurn s ∧ s.active = m ∧ s.stopped = false := by
  obtain ⟨ha, h⟩ := h
  refine ⟨schedulerTurn_noEvent s (h.imp id And.left), ha, ?_⟩
  rcases h with h | ⟨_, hr, hp⟩
  · simp [State.stopped, h]
  · simp [State.stopped, hr, hp]

/-- Two functions after an outcome are one. -/
@[simp] theorem onNext_onNext (r : Result) (f g : State → State) : onNext (onNext r f) g = onNext r (fun s => g (f s)) := by
  cases r <;> rfl

/-! ## The tight loop -/

theorem fetchInstr_jr (g : GameBoy) (h : g.memRead (.fetch 0) g.pc = 0x18) :
    g.fetchInstr = (.jr_e (g.memRead (.fetch 1) (g.pc + 1)), 2) := by
  simp only [GameBoy.fetchInstr, h]; rfl

theorem fetchInstr_jp (g : GameBoy) (h : g.memRead (.fetch 0) g.pc = 0xC3) :
    g.fetchInstr = (.jp_nn (g.memRead (.fetch 2) (g.pc + 2) ++ g.memRead (.fetch 1) (g.pc + 1)), 3) := by
  simp only [GameBoy.fetchInstr, h]; rfl

/-- An awake CPU that no interrupt can reach runs the next instruction. -/
theorem cpuStep_uninterrupted (s : State) (hw : s.gb.halted = false) (hu : s.uninterrupted) : cpuStep s = runInstr s := by
  have hv : ¬ (s.cfg.irqVectoring = .vblank ∧ s.gb.vblankPending = true) := by
    rintro ⟨hc, hp⟩
    rcases hu with hi | hi
    · simp [GameBoy.vblankPending, hi] at hp
    · rw [hi] at hc; cases hc
  simp only [cpuStep, hw, interruptOrInstr, hv, if_false, Bool.false_eq_true]

/-- A step of the tight loop leaves `PC` as it was and changes nothing but the cycle report. -/
theorem State.tightLoop_repeats (s : State) (h : s.tightLoop) : s.repeatsItself := by
  obtain ⟨hw, hj, hu⟩ := h
  refine ⟨hw, hu, ?_⟩
  rw [cpuStep_uninterrupted s hw hu]
  rcases hj with ⟨h0, h1⟩ | ⟨h0, h12⟩
  · have hpc : s.gb.pc + 2#16 + sext16 0xFE = s.gb.pc := by
      rw [BitVec.add_assoc, show 2#16 + sext16 0xFE = 0#16 from by decide, BitVec.add_zero]
    refine ⟨12, ?_⟩
    rw [runInstr, fetchInstr_jr s.gb h0, h1]
    exact congrArg (fun pc => Host.Outcome.next { s with gb := ({ s.gb with pc := pc } : GameBoy).spend 12 }) hpc
  · refine ⟨16, ?_⟩
    rw [runInstr, fetchInstr_jp s.gb h0, h12]
    rfl

end Sys2Proof.Machine
end

