-- ==== Sys2Proof/Tests/Slice0.lean ====
section
/-! SUPPORT. Own tests of the model: the ill-formed term, a word of every constructor written out from the spec's encoding, single
steps of the spec's worked examples and vectors (spec/95_test_vectors.md), and for every statement with hypotheses a state and operands
that meet them. -/

namespace Sys2Proof.Tests

open Sys2Proof Sys2Proof.Machine

set_option Elab.async false

/-! ## Helpers -/

/-- Every row's bytes decode to the row's instruction, with nothing left over. -/
def decodesAll (m : MachineId) (rows : List (List Byte × Instr)) : Bool :=
  rows.all fun row =>
    match decode m row.1 with
    | .ok (i, []) => decide (i = row.2)
    | _ => false

/-- What is seen after an outcome that is a next state. -/
def seen {α : Type} (look : State → α) : Result → Option α
  | .next t => some (look t)
  | _ => none

/-- The machine after reset with an instruction of the opcode table where it fetches next, and some fields changed. -/
def placed (nbits w : Nat) (change : GameBoy → GameBoy) : State :=
  let s := State.reset.withFetchWord nbits w
  { s with gb := change s.gb }

/-- The same for the CHIP-8 machine. -/
def placed8 (w : Nat) (change : Chip8 → Chip8) : State :=
  let s := State.reset.withFetchWord 16 w
  { s with ch8 := change s.ch8 }

/-- What is seen of the Game Boy machine after one step. -/
def stepped {α : Type} (look : GameBoy → α) (s : State) : Option α := seen (fun t => look t.gb) (step s)

/-- What is seen of the CHIP-8 machine after one step. -/
def stepped8 {α : Type} (look : Chip8 → α) (s : State) : Option α := seen (fun t => look t.ch8) (step s)

theorem next_of_seen {r : Result} (h : (seen id r).isSome = true) : ∃ t, r = .next t := by
  cases r with
  | next t => exact ⟨t, rfl⟩
  | fault _ => cases h
  | refused _ => cases h

/-! ## Well-formedness -/

/-- The two words of major 0 that are not `SYS` (spec/49_chip8.md rule R304). -/
theorem test_ill_formed_sys_refused :
    (Instr.ch8_sys_nnn 0x0E0).wellFormed = false ∧ (Instr.ch8_sys_nnn 0x0EE).wellFormed = false := by decide

theorem test_well_formed_sys : (Instr.ch8_sys_nnn 0x0E1).wellFormed = true := by decide

/-! ## Decoding: a word of every constructor, from the encodings of spec/30_encoding.md and spec/49_chip8.md rule R346 -/

theorem test_decode_load8_1 :
    decodesAll .gameBoy [
      ([0x02], .ld_atBC_A), ([0x06, 0x5A], .ld_B_n 0x5A), ([0x0A], .ld_A_atBC), ([0x0E, 0x5A], .ld_C_n 0x5A),
      ([0x12], .ld_atDE_A), ([0x16, 0x5A], .ld_D_n 0x5A), ([0x1A], .ld_A_atDE), ([0x1E, 0x5A], .ld_E_n 0x5A),
      ([0x22], .ld_atHLinc_A), ([0x26, 0x5A], .ld_H_n 0x5A), ([0x2A], .ld_A_atHLinc), ([0x2E, 0x5A], .ld_L_n 0x5A),
      ([0x32], .ld_atHLdec_A), ([0x36, 0x5A], .ld_atHL_n 0x5A), ([0x3A], .ld_A_atHLdec), ([0x3E, 0x5A], .ld_A_n 0x5A),
      ([0x40], .ld_B_B), ([0x41], .ld_B_C), ([0x42], .ld_B_D), ([0x43], .ld_B_E), ([0x44], .ld_B_H), ([0x45], .ld_B_L),
      ([0x46], .ld_B_atHL), ([0x47], .ld_B_A), ([0x48], .ld_C_B), ([0x49], .ld_C_C), ([0x4A], .ld_C_D), ([0x4B], .ld_C_E),
      ([0x4C], .ld_C_H), ([0x4D], .ld_C_L), ([0x4E], .ld_C_atHL), ([0x4F], .ld_C_A)] = true := by decide +kernel

theorem test_decode_load8_2 :
    decodesAll .gameBoy [
      ([0x50], .ld_D_B), ([0x51], .ld_D_C), ([0x52], .ld_D_D), ([0x53], .ld_D_E), ([0x54], .ld_D_H), ([0x55], .ld_D_L),
      ([0x56], .ld_D_atHL), ([0x57], .ld_D_A), ([0x58], .ld_E_B), ([0x59], .ld_E_C), ([0x5A], .ld_E_D), ([0x5B], .ld_E_E),
      ([0x5C], .ld_E_H), ([0x5D], .ld_E_L), ([0x5E], .ld_E_atHL), ([0x5F], .ld_E_A), ([0x60], .ld_H_B), ([0x61], .ld_H_C),
      ([0x62], .ld_H_D), ([0x63], .ld_H_E), ([0x64], .ld_H_H), ([0x65], .ld_H_L), ([0x66], .ld_H_atHL), ([0x67], .ld_H_A),
      ([0x68], .ld_L_B), ([0x69], .ld_L_C), ([0x6A], .ld_L_D), ([0x6B], .ld_L_E), ([0x6C], .ld_L_H), ([0x6D], .ld_L_L),
      ([0x6E], .ld_L_atHL), ([0x6F], .ld_L_A)] = true := by decide +kernel

theorem test_decode_load8_3 :
    decodesAll .gameBoy [
      ([0x70], .ld_atHL_B), ([0x71], .ld_atHL_C), ([0x72], .ld_atHL_D), ([0x73], .ld_atHL_E), ([0x74], .ld_atHL_H),
      ([0x75], .ld_atHL_L), ([0x77], .ld_atHL_A), ([0x78], .ld_A_B), ([0x79], .ld_A_C), ([0x7A], .ld_A_D),
      ([0x7B], .ld_A_E), ([0x7C], .ld_A_H), ([0x7D], .ld_A_L), ([0x7E], .ld_A_atHL), ([0x7F], .ld_A_A),
      ([0xE0, 0x5A], .ldh_at_n_A 0x5A), ([0xE2], .ld_atC_A), ([0xEA, 0x34, 0x12], .ld_at_nn_A 0x1234),
      ([0xF0, 0x5A], .ldh_A_at_n 0x5A), ([0xF2], .ld_A_atC), ([0xFA, 0x34, 0x12], .ld_A_at_nn 0x1234)] = true := by decide +kernel

theorem test_decode_load16 :
    decodesAll .gameBoy [
      ([0x01, 0x34, 0x12], .ld_BC_nn 0x1234), ([0x08, 0x34, 0x12], .ld_at_nn_SP 0x1234),
      ([0x11, 0x34, 0x12], .ld_DE_nn 0x1234), ([0x21, 0x34, 0x12], .ld_HL_nn 0x1234),
      ([0x31, 0x34, 0x12], .ld_SP_nn 0x1234), ([0xC1], .pop_BC), ([0xC5], .push_BC), ([0xD1], .pop_DE), ([0xD5], .push_DE),
      ([0xE1], .pop_HL), ([0xE5], .push_HL), ([0xF1], .pop_AF), ([0xF5], .push_AF), ([0xF8, 0xFE], .ld_HL_SPe 0xFE),
      ([0xF9], .ld_SP_HL)] = true := by decide +kernel

theorem test_decode_alu8_1 :
    decodesAll .gameBoy [
      ([0x04], .inc_B), ([0x05], .dec_B), ([0x0C], .inc_C), ([0x0D], .dec_C), ([0x14], .inc_D), ([0x15], .dec_D),
      ([0x1C], .inc_E), ([0x1D], .dec_E), ([0x24], .inc_H), ([0x25], .dec_H), ([0x27], .daa), ([0x2C], .inc_L),
      ([0x2D], .dec_L), ([0x2F], .cpl), ([0x34], .inc_atHL), ([0x35], .dec_atHL), ([0x37], .scf), ([0x3C], .inc_A),
      ([0x3D], .dec_A), ([0x3F], .ccf), ([0x80], .add_A_B), ([0x81], .add_A_C), ([0x82], .add_A_D), ([0x83], .add_A_E),
      ([0x84], .add_A_H), ([0x85], .add_A_L), ([0x86], .add_A_atHL), ([0x87], .add_A_A), ([0x88], .adc_A_B),
      ([0x89], .adc_A_C), ([0x8A], .adc_A_D), ([0x8B], .adc_A_E)] = true := by decide +kernel

theorem test_decode_alu8_2 :
    decodesAll .gameBoy [
      ([0x8C], .adc_A_H), ([0x8D], .adc_A_L), ([0x8E], .adc_A_atHL), ([0x8F], .adc_A_A), ([0x90], .sub_B), ([0x91], .sub_C),
      ([0x92], .sub_D), ([0x93], .sub_E), ([0x94], .sub_H), ([0x95], .sub_L), ([0x96], .sub_atHL), ([0x97], .sub_A),
      ([0x98], .sbc_A_B), ([0x99], .sbc_A_C), ([0x9A], .sbc_A_D), ([0x9B], .sbc_A_E), ([0x9C], .sbc_A_H),
      ([0x9D], .sbc_A_L), ([0x9E], .sbc_A_atHL), ([0x9F], .sbc_A_A), ([0xA0], .and_B), ([0xA1], .and_C), ([0xA2], .and_D),
      ([0xA3], .and_E), ([0xA4], .and_H), ([0xA5], .and_L), ([0xA6], .and_atHL), ([0xA7], .and_A), ([0xA8], .xor_B),
      ([0xA9], .xor_C), ([0xAA], .xor_D), ([0xAB], .xor_E)] = true := by decide +kernel

theorem test_decode_alu8_3 :
    decodesAll .gameBoy [
      ([0xAC], .xor_H), ([0xAD], .xor_L), ([0xAE], .xor_atHL), ([0xAF], .xor_A), ([0xB0], .or_B), ([0xB1], .or_C),
      ([0xB2], .or_D), ([0xB3], .or_E), ([0xB4], .or_H), ([0xB5], .or_L), ([0xB6], .or_atHL), ([0xB7], .or_A),
      ([0xB8], .cp_B), ([0xB9], .cp_C), ([0xBA], .cp_D), ([0xBB], .cp_E), ([0xBC], .cp_H), ([0xBD], .cp_L),
      ([0xBE], .cp_atHL), ([0xBF], .cp_A), ([0xC6, 0x5A], .add_A_n 0x5A), ([0xCE, 0x5A], .adc_A_n 0x5A),
      ([0xD6, 0x5A], .sub_n 0x5A), ([0xDE, 0x5A], .sbc_A_n 0x5A), ([0xE6, 0x5A], .and_n 0x5A), ([0xEE, 0x5A], .xor_n 0x5A),
      ([0xF6, 0x5A], .or_n 0x5A), ([0xFE, 0x5A], .cp_n 0x5A)] = true := by decide +kernel

theorem test_decode_alu16 :
    decodesAll .gameBoy [
      ([0x03], .inc_BC), ([0x09], .add_HL_BC), ([0x0B], .dec_BC), ([0x13], .inc_DE), ([0x19], .add_HL_DE),
      ([0x1B], .dec_DE), ([0x23], .inc_HL), ([0x29], .add_HL_HL), ([0x2B], .dec_HL), ([0x33], .inc_SP),
      ([0x39], .add_HL_SP), ([0x3B], .dec_SP), ([0xE8, 0xFE], .add_SP_e 0xFE)] = true := by decide +kernel

theorem test_decode_rotate_1 :
    decodesAll .gameBoy [
      ([0x07], .rlca), ([0x0F], .rrca), ([0x17], .rla), ([0x1F], .rra), ([0xCB, 0x00], .rlc_B), ([0xCB, 0x01], .rlc_C),
      ([0xCB, 0x02], .rlc_D), ([0xCB, 0x03], .rlc_E), ([0xCB, 0x04], .rlc_H), ([0xCB, 0x05], .rlc_L),
      ([0xCB, 0x06], .rlc_atHL), ([0xCB, 0x07], .rlc_A), ([0xCB, 0x08], .rrc_B), ([0xCB, 0x09], .rrc_C),
      ([0xCB, 0x0A], .rrc_D), ([0xCB, 0x0B], .rrc_E), ([0xCB, 0x0C], .rrc_H), ([0xCB, 0x0D], .rrc_L),
      ([0xCB, 0x0E], .rrc_atHL), ([0xCB, 0x0F], .rrc_A), ([0xCB, 0x10], .rl_B), ([0xCB, 0x11], .rl_C),
      ([0xCB, 0x12], .rl_D), ([0xCB, 0x13], .rl_E), ([0xCB, 0x14], .rl_H), ([0xCB, 0x15], .rl_L), ([0xCB, 0x16], .rl_atHL),
      ([0xCB, 0x17], .rl_A), ([0xCB, 0x18], .rr_B), ([0xCB, 0x19], .rr_C), ([0xCB, 0x1A], .rr_D),
      ([0xCB, 0x1B], .rr_E)] = true := by decide +kernel

theorem test_decode_rotate_2 :
    decodesAll .gameBoy [
      ([0xCB, 0x1C], .rr_H), ([0xCB, 0x1D], .rr_L), ([0xCB, 0x1E], .rr_atHL), ([0xCB, 0x1F], .rr_A), ([0xCB, 0x20], .sla_B),
      ([0xCB, 0x21], .sla_C), ([0xCB, 0x22], .sla_D), ([0xCB, 0x23], .sla_E), ([0xCB, 0x24], .sla_H),
      ([0xCB, 0x25], .sla_L), ([0xCB, 0x26], .sla_atHL), ([0xCB, 0x27], .sla_A), ([0xCB, 0x28], .sra_B),
      ([0xCB, 0x29], .sra_C), ([0xCB, 0x2A], .sra_D), ([0xCB, 0x2B], .sra_E), ([0xCB, 0x2C], .sra_H),
      ([0xCB, 0x2D], .sra_L), ([0xCB, 0x2E], .sra_atHL), ([0xCB, 0x2F], .sra_A), ([0xCB, 0x30], .swap_B),
      ([0xCB, 0x31], .swap_C), ([0xCB, 0x32], .swap_D), ([0xCB, 0x33], .swap_E), ([0xCB, 0x34], .swap_H),
      ([0xCB, 0x35], .swap_L), ([0xCB, 0x36], .swap_atHL), ([0xCB, 0x37], .swap_A), ([0xCB, 0x38], .srl_B),
      ([0xCB, 0x39], .srl_C), ([0xCB, 0x3A], .srl_D), ([0xCB, 0x3B], .srl_E)] = true := by decide +kernel

theorem test_decode_rotate_3 :
    decodesAll .gameBoy [
      ([0xCB, 0x3C], .srl_H), ([0xCB, 0x3D], .srl_L), ([0xCB, 0x3E], .srl_atHL), ([0xCB, 0x3F], .srl_A)] = true := by decide +kernel

theorem test_decode_bit_1 :
    decodesAll .gameBoy [
      ([0xCB, 0x40], .bit_0_B), ([0xCB, 0x41], .bit_0_C), ([0xCB, 0x42], .bit_0_D), ([0xCB, 0x43], .bit_0_E),
      ([0xCB, 0x44], .bit_0_H), ([0xCB, 0x45], .bit_0_L), ([0xCB, 0x46], .bit_0_atHL), ([0xCB, 0x47], .bit_0_A),
      ([0xCB, 0x48], .bit_1_B), ([0xCB, 0x49], .bit_1_C), ([0xCB, 0x4A], .bit_1_D), ([0xCB, 0x4B], .bit_1_E),
      ([0xCB, 0x4C], .bit_1_H), ([0xCB, 0x4D], .bit_1_L), ([0xCB, 0x4E], .bit_1_atHL), ([0xCB, 0x4F], .bit_1_A),
      ([0xCB, 0x50], .bit_2_B), ([0xCB, 0x51], .bit_2_C), ([0xCB, 0x52], .bit_2_D), ([0xCB, 0x53], .bit_2_E),
      ([0xCB, 0x54], .bit_2_H), ([0xCB, 0x55], .bit_2_L), ([0xCB, 0x56], .bit_2_atHL), ([0xCB, 0x57], .bit_2_A),
      ([0xCB, 0x58], .bit_3_B), ([0xCB, 0x59], .bit_3_C), ([0xCB, 0x5A], .bit_3_D), ([0xCB, 0x5B], .bit_3_E),
      ([0xCB, 0x5C], .bit_3_H), ([0xCB, 0x5D], .bit_3_L), ([0xCB, 0x5E], .bit_3_atHL),
      ([0xCB, 0x5F], .bit_3_A)] = true := by decide +kernel

theorem test_decode_bit_2 :
    decodesAll .gameBoy [
      ([0xCB, 0x60], .bit_4_B), ([0xCB, 0x61], .bit_4_C), ([0xCB, 0x62], .bit_4_D), ([0xCB, 0x63], .bit_4_E),
      ([0xCB, 0x64], .bit_4_H), ([0xCB, 0x65], .bit_4_L), ([0xCB, 0x66], .bit_4_atHL), ([0xCB, 0x67], .bit_4_A),
      ([0xCB, 0x68], .bit_5_B), ([0xCB, 0x69], .bit_5_C), ([0xCB, 0x6A], .bit_5_D), ([0xCB, 0x6B], .bit_5_E),
      ([0xCB, 0x6C], .bit_5_H), ([0xCB, 0x6D], .bit_5_L), ([0xCB, 0x6E], .bit_5_atHL), ([0xCB, 0x6F], .bit_5_A),
      ([0xCB, 0x70], .bit_6_B), ([0xCB, 0x71], .bit_6_C), ([0xCB, 0x72], .bit_6_D), ([0xCB, 0x73], .bit_6_E),
      ([0xCB, 0x74], .bit_6_H), ([0xCB, 0x75], .bit_6_L), ([0xCB, 0x76], .bit_6_atHL), ([0xCB, 0x77], .bit_6_A),
      ([0xCB, 0x78], .bit_7_B), ([0xCB, 0x79], .bit_7_C), ([0xCB, 0x7A], .bit_7_D), ([0xCB, 0x7B], .bit_7_E),
      ([0xCB, 0x7C], .bit_7_H), ([0xCB, 0x7D], .bit_7_L), ([0xCB, 0x7E], .bit_7_atHL),
      ([0xCB, 0x7F], .bit_7_A)] = true := by decide +kernel

theorem test_decode_bit_3 :
    decodesAll .gameBoy [
      ([0xCB, 0x80], .res_0_B), ([0xCB, 0x81], .res_0_C), ([0xCB, 0x82], .res_0_D), ([0xCB, 0x83], .res_0_E),
      ([0xCB, 0x84], .res_0_H), ([0xCB, 0x85], .res_0_L), ([0xCB, 0x86], .res_0_atHL), ([0xCB, 0x87], .res_0_A),
      ([0xCB, 0x88], .res_1_B), ([0xCB, 0x89], .res_1_C), ([0xCB, 0x8A], .res_1_D), ([0xCB, 0x8B], .res_1_E),
      ([0xCB, 0x8C], .res_1_H), ([0xCB, 0x8D], .res_1_L), ([0xCB, 0x8E], .res_1_atHL), ([0xCB, 0x8F], .res_1_A),
      ([0xCB, 0x90], .res_2_B), ([0xCB, 0x91], .res_2_C), ([0xCB, 0x92], .res_2_D), ([0xCB, 0x93], .res_2_E),
      ([0xCB, 0x94], .res_2_H), ([0xCB, 0x95], .res_2_L), ([0xCB, 0x96], .res_2_atHL), ([0xCB, 0x97], .res_2_A),
      ([0xCB, 0x98], .res_3_B), ([0xCB, 0x99], .res_3_C), ([0xCB, 0x9A], .res_3_D), ([0xCB, 0x9B], .res_3_E),
      ([0xCB, 0x9C], .res_3_H), ([0xCB, 0x9D], .res_3_L), ([0xCB, 0x9E], .res_3_atHL),
      ([0xCB, 0x9F], .res_3_A)] = true := by decide +kernel

theorem test_decode_bit_4 :
    decodesAll .gameBoy [
      ([0xCB, 0xA0], .res_4_B), ([0xCB, 0xA1], .res_4_C), ([0xCB, 0xA2], .res_4_D), ([0xCB, 0xA3], .res_4_E),
      ([0xCB, 0xA4], .res_4_H), ([0xCB, 0xA5], .res_4_L), ([0xCB, 0xA6], .res_4_atHL), ([0xCB, 0xA7], .res_4_A),
      ([0xCB, 0xA8], .res_5_B), ([0xCB, 0xA9], .res_5_C), ([0xCB, 0xAA], .res_5_D), ([0xCB, 0xAB], .res_5_E),
      ([0xCB, 0xAC], .res_5_H), ([0xCB, 0xAD], .res_5_L), ([0xCB, 0xAE], .res_5_atHL), ([0xCB, 0xAF], .res_5_A),
      ([0xCB, 0xB0], .res_6_B), ([0xCB, 0xB1], .res_6_C), ([0xCB, 0xB2], .res_6_D), ([0xCB, 0xB3], .res_6_E),
      ([0xCB, 0xB4], .res_6_H), ([0xCB, 0xB5], .res_6_L), ([0xCB, 0xB6], .res_6_atHL), ([0xCB, 0xB7], .res_6_A),
      ([0xCB, 0xB8], .res_7_B), ([0xCB, 0xB9], .res_7_C), ([0xCB, 0xBA], .res_7_D), ([0xCB, 0xBB], .res_7_E),
      ([0xCB, 0xBC], .res_7_H), ([0xCB, 0xBD], .res_7_L), ([0xCB, 0xBE], .res_7_atHL),
      ([0xCB, 0xBF], .res_7_A)] = true := by decide +kernel

theorem test_decode_bit_5 :
    decodesAll .gameBoy [
      ([0xCB, 0xC0], .set_0_B), ([0xCB, 0xC1], .set_0_C), ([0xCB, 0xC2], .set_0_D), ([0xCB, 0xC3], .set_0_E),
      ([0xCB, 0xC4], .set_0_H), ([0xCB, 0xC5], .set_0_L), ([0xCB, 0xC6], .set_0_atHL), ([0xCB, 0xC7], .set_0_A),
      ([0xCB, 0xC8], .set_1_B), ([0xCB, 0xC9], .set_1_C), ([0xCB, 0xCA], .set_1_D), ([0xCB, 0xCB], .set_1_E),
      ([0xCB, 0xCC], .set_1_H), ([0xCB, 0xCD], .set_1_L), ([0xCB, 0xCE], .set_1_atHL), ([0xCB, 0xCF], .set_1_A),
      ([0xCB, 0xD0], .set_2_B), ([0xCB, 0xD1], .set_2_C), ([0xCB, 0xD2], .set_2_D), ([0xCB, 0xD3], .set_2_E),
      ([0xCB, 0xD4], .set_2_H), ([0xCB, 0xD5], .set_2_L), ([0xCB, 0xD6], .set_2_atHL), ([0xCB, 0xD7], .set_2_A),
      ([0xCB, 0xD8], .set_3_B), ([0xCB, 0xD9], .set_3_C), ([0xCB, 0xDA], .set_3_D), ([0xCB, 0xDB], .set_3_E),
      ([0xCB, 0xDC], .set_3_H), ([0xCB, 0xDD], .set_3_L), ([0xCB, 0xDE], .set_3_atHL),
      ([0xCB, 0xDF], .set_3_A)] = true := by decide +kernel

theorem test_decode_bit_6 :
    decodesAll .gameBoy [
      ([0xCB, 0xE0], .set_4_B), ([0xCB, 0xE1], .set_4_C), ([0xCB, 0xE2], .set_4_D), ([0xCB, 0xE3], .set_4_E),
      ([0xCB, 0xE4], .set_4_H), ([0xCB, 0xE5], .set_4_L), ([0xCB, 0xE6], .set_4_atHL), ([0xCB, 0xE7], .set_4_A),
      ([0xCB, 0xE8], .set_5_B), ([0xCB, 0xE9], .set_5_C), ([0xCB, 0xEA], .set_5_D), ([0xCB, 0xEB], .set_5_E),
      ([0xCB, 0xEC], .set_5_H), ([0xCB, 0xED], .set_5_L), ([0xCB, 0xEE], .set_5_atHL), ([0xCB, 0xEF], .set_5_A),
      ([0xCB, 0xF0], .set_6_B), ([0xCB, 0xF1], .set_6_C), ([0xCB, 0xF2], .set_6_D), ([0xCB, 0xF3], .set_6_E),
      ([0xCB, 0xF4], .set_6_H), ([0xCB, 0xF5], .set_6_L), ([0xCB, 0xF6], .set_6_atHL), ([0xCB, 0xF7], .set_6_A),
      ([0xCB, 0xF8], .set_7_B), ([0xCB, 0xF9], .set_7_C), ([0xCB, 0xFA], .set_7_D), ([0xCB, 0xFB], .set_7_E),
      ([0xCB, 0xFC], .set_7_H), ([0xCB, 0xFD], .set_7_L), ([0xCB, 0xFE], .set_7_atHL),
      ([0xCB, 0xFF], .set_7_A)] = true := by decide +kernel

theorem test_decode_control :
    decodesAll .gameBoy [
      ([0x18, 0xFE], .jr_e 0xFE), ([0x20, 0xFE], .jr_NZ_e 0xFE), ([0x28, 0xFE], .jr_Z_e 0xFE),
      ([0x30, 0xFE], .jr_NC_e 0xFE), ([0x38, 0xFE], .jr_C_e 0xFE), ([0xC0], .ret_NZ),
      ([0xC2, 0x34, 0x12], .jp_NZ_nn 0x1234), ([0xC3, 0x34, 0x12], .jp_nn 0x1234), ([0xC4, 0x34, 0x12], .call_NZ_nn 0x1234),
      ([0xC7], .rst_00), ([0xC8], .ret_Z), ([0xC9], .ret), ([0xCA, 0x34, 0x12], .jp_Z_nn 0x1234),
      ([0xCC, 0x34, 0x12], .call_Z_nn 0x1234), ([0xCD, 0x34, 0x12], .call_nn 0x1234), ([0xCF], .rst_08), ([0xD0], .ret_NC),
      ([0xD2, 0x34, 0x12], .jp_NC_nn 0x1234), ([0xD4, 0x34, 0x12], .call_NC_nn 0x1234), ([0xD7], .rst_10), ([0xD8], .ret_C),
      ([0xD9], .reti), ([0xDA, 0x34, 0x12], .jp_C_nn 0x1234), ([0xDC, 0x34, 0x12], .call_C_nn 0x1234), ([0xDF], .rst_18),
      ([0xE7], .rst_20), ([0xE9], .jp_HL), ([0xEF], .rst_28), ([0xF7], .rst_30), ([0xFF], .rst_38)] = true := by decide +kernel

theorem test_decode_system :
    decodesAll .gameBoy [
      ([0x00], .nop), ([0x10], .stop), ([0x76], .halt), ([0xCB], .prefixCb), ([0xD3], .undefined_D3),
      ([0xDB], .undefined_DB), ([0xDD], .undefined_DD), ([0xE3], .undefined_E3), ([0xE4], .undefined_E4),
      ([0xEB], .undefined_EB), ([0xEC], .undefined_EC), ([0xED], .undefined_ED), ([0xF3], .di), ([0xF4], .undefined_F4),
      ([0xFB], .ei), ([0xFC], .undefined_FC), ([0xFD], .undefined_FD)] = true := by decide +kernel

theorem test_decode_chip8_1 :
    decodesAll .chip8 [
      ([0x00, 0xE0], .ch8_cls), ([0x00, 0xEE], .ch8_ret), ([0x0A, 0xBC], .ch8_sys_nnn 0xABC),
      ([0x1A, 0xBC], .ch8_jp_nnn 0xABC), ([0x2A, 0xBC], .ch8_call_nnn 0xABC), ([0x37, 0xC5], .ch8_se_Vx_nn 0x7 0xC5),
      ([0x47, 0xC5], .ch8_sne_Vx_nn 0x7 0xC5), ([0x57, 0xA0], .ch8_se_Vx_Vy 0x7 0xA),
      ([0x67, 0xC5], .ch8_ld_Vx_nn 0x7 0xC5), ([0x77, 0xC5], .ch8_add_Vx_nn 0x7 0xC5),
      ([0x87, 0xA0], .ch8_ld_Vx_Vy 0x7 0xA), ([0x87, 0xA1], .ch8_or_Vx_Vy 0x7 0xA), ([0x87, 0xA2], .ch8_and_Vx_Vy 0x7 0xA),
      ([0x87, 0xA3], .ch8_xor_Vx_Vy 0x7 0xA), ([0x87, 0xA4], .ch8_add_Vx_Vy 0x7 0xA),
      ([0x87, 0xA5], .ch8_sub_Vx_Vy 0x7 0xA), ([0x87, 0xA6], .ch8_shr_Vx_Vy 0x7 0xA),
      ([0x87, 0xA7], .ch8_subn_Vx_Vy 0x7 0xA), ([0x87, 0xAE], .ch8_shl_Vx_Vy 0x7 0xA),
      ([0x97, 0xA0], .ch8_sne_Vx_Vy 0x7 0xA), ([0xAA, 0xBC], .ch8_ld_I_nnn 0xABC), ([0xBA, 0xBC], .ch8_jp_V0_nnn 0xABC),
      ([0xC7, 0xC5], .ch8_rnd_Vx_nn 0x7 0xC5), ([0xD7, 0xAD], .ch8_drw_Vx_Vy_n 0x7 0xA 0xD),
      ([0xE7, 0x9E], .ch8_skp_Vx 0x7), ([0xE7, 0xA1], .ch8_sknp_Vx 0x7), ([0xF7, 0x07], .ch8_ld_Vx_DT 0x7),
      ([0xF7, 0x0A], .ch8_ld_Vx_K 0x7), ([0xF7, 0x15], .ch8_ld_DT_Vx 0x7), ([0xF7, 0x18], .ch8_ld_ST_Vx 0x7),
      ([0xF7, 0x1E], .ch8_add_I_Vx 0x7), ([0xF7, 0x29], .ch8_ld_F_Vx 0x7)] = true := by decide +kernel

theorem test_decode_chip8_2 :
    decodesAll .chip8 [
      ([0xF7, 0x33], .ch8_ld_B_Vx 0x7), ([0xF7, 0x55], .ch8_ld_atI_Vx 0x7),
      ([0xF7, 0x65], .ch8_ld_Vx_atI 0x7)] = true := by decide +kernel

/-- Errors by name: an instruction cut short, and words of rule R303 (spec/95_test_vectors.md X21, X48, X51, X73, X90). -/
theorem test_decode_errors :
    decode .gameBoy [] = .error .truncated ∧ decode .gameBoy [0x3E] = .error .truncated ∧
    decode .gameBoy [0xC3, 0x00] = .error .truncated ∧ decode .chip8 [0x60] = .error .truncated ∧
    ([0x5121, 0x8128, 0x9121, 0xE100, 0xF1FF].all fun w => decide (decodeCh8 w = .error (.unknownChip8 w))) = true :=
  ⟨rfl, rfl, rfl, rfl, by decide +kernel⟩

/-! ## Single steps. The expected values are those of spec/95_test_vectors.md -/

/-- S11: `NOP` after reset. -/
theorem test_nop : stepped (fun g => (g.cycles, [g.pc, g.af, g.bc, g.de, g.hl, g.sp])) (placed 8 0x00 id) =
    some (4, [0x0101, 0x01B0, 0x0013, 0x00D8, 0x014D, 0xFFFE]) := by decide +kernel

/-- 2.1: `LD B,(HL)` with `H` loaded from the address it held. -/
theorem test_ld_h_from_hl :
    stepped (fun g => (g.h, g.l, g.cycles)) (placed 8 0x66 fun g => ({ g with h := 0xC0, l := 0x00 }).setCell 0xC000 0xD1) =
      some (0xD1, 0x00, 8) := by decide +kernel

/-- 2.1: `LD (HL),B` to echo RAM writes `wram[0]`. -/
theorem test_ld_hl_b_echo :
    stepped (fun g => (g.cell 0xC000, g.memRead (.data 0) 0xE000)) (placed 8 0x70 fun g => { g with h := 0xE0, l := 0x00, b := 0x77 }) =
      some (0x77, 0x77) := by decide +kernel

/-- 2.1: `LD (HL+),A` at 0xFFFF: `HL` wraps and `ie` is written. -/
theorem test_ld_hl_inc_a_wrap :
    stepped (fun g => (g.hl, g.ieReg)) (placed 8 0x22 fun g => { g with h := 0xFF, l := 0xFF, a := 0x01 }) = some (0x0000, 0x01) := by
  decide +kernel

/-- 2.1: `LDH (0x00),A` stores the selector bits of the joypad port. -/
theorem test_joypad_write : stepped (fun g => g.memRead (.data 0) 0xFF00) (placed 8 0xE0 fun g => { g with a := 0x20, buttons := 0xF6 }) =
    some 0x26 := by decide +kernel

/-- S5: `LD HL,SP+2` with `SP = 0xFFF8`. -/
theorem test_ld_hl_sp_e : stepped (fun g => (g.hl, g.f.toByte, g.sp)) (placed 24 0x0002F8 fun g => { g with sp := 0xFFF8 }) =
    some (0xFFFA, 0x00, 0xFFF8) := by decide +kernel

/-- 2.2: `LD (nn),SP` across the end of `wram`: the high byte lands in the echo of 0xC000. -/
theorem test_ld_nn_sp : stepped (fun g => (g.cell 0xDFFF, g.cell 0xC000)) (placed 24 0xDFFF08 fun g => { g with sp := 0xBEEF }) =
    some (0xEF, 0xBE) := by decide +kernel

/-- 2.2: `PUSH HL` with `SP = 0` wraps. -/
theorem test_push_wrap :
    stepped (fun g => (g.sp, g.cell 0xFFFF, g.cell 0xFFFE)) (placed 8 0xE5 fun g => { g with h := 0xAB, l := 0xCD, sp := 0x0000 }) =
      some (0xFFFE, 0xAB, 0xCD) := by decide +kernel

/-- 2.2: `POP AF` masks the low nibble of `F`. -/
theorem test_pop_af :
    stepped (fun g => (g.af, g.sp)) (placed 8 0xF1 fun g =>
      (({ g with sp := 0xC000 } : GameBoy).setCell 0xC000 0x5F).setCell 0xC001 0xAA) = some (0xAA50, 0xC002) := by decide +kernel

/-- S2: `ADD A,B`, 0x0F and 0x01. -/
theorem test_add_half_carry : stepped (fun g => (g.a, g.f.toByte)) (placed 8 0x80 fun g => { g with a := 0x0F, b := 0x01 }) =
    some (0x10, 0x20) := by decide +kernel

/-- 2.3: `ADC A,B`, 0xFF and 0xFF and the carry. -/
theorem test_adc : stepped (fun g => (g.a, g.f.toByte)) (placed 8 0x88 fun g =>
    { g with a := 0xFF, b := 0xFF, f := Flags.ofByte 0x10 }) = some (0xFF, 0x30) := by decide +kernel

/-- 2.3: `SBC A,B`, 0x01 - 0xFF - 1, where the subtrahend and the borrow make 256. -/
theorem test_sbc : stepped (fun g => (g.a, g.f.toByte)) (placed 8 0x98 fun g =>
    { g with a := 0x01, b := 0xFF, f := Flags.ofByte 0x10 }) = some (0x01, 0x70) := by decide +kernel

/-- 2.3: `CP B` keeps `A`. -/
theorem test_cp : stepped (fun g => (g.a, g.f.toByte)) (placed 8 0xB8 fun g => { g with a := 0x3C, b := 0x40 }) =
    some (0x3C, 0x50) := by decide +kernel

/-- S4: `DAA` on the sum 0x15 + 0x15. -/
theorem test_daa : stepped (fun g => (g.a, g.f.toByte)) (placed 8 0x27 fun g => { g with a := 0x2A, f := Flags.ofByte 0x00 }) =
    some (0x30, 0x00) := by decide +kernel

/-- 2.3: `INC (HL)` on a ROM byte reads the ROM and writes the enable latch. -/
theorem test_inc_hl_rom : stepped (fun g => (g.ramEnabled, g.f.toByte)) (placed 8 0x34 fun g =>
    ({ g with h := 0x01, l := 0x50, f := Flags.ofByte 0x00 } : GameBoy).place 0x0150 0x09) = some (true, 0x00) := by decide +kernel

/-- 2.4: `ADD HL,BC`: half carry out of bit 11, Z kept. -/
theorem test_add_hl : stepped (fun g => (g.hl, g.f.toByte)) (placed 8 0x09 fun g =>
    { g with h := 0x0F, l := 0xFF, b := 0x00, c := 0x01, f := Flags.ofByte 0x80 }) = some (0x1000, 0xA0) := by decide +kernel

/-- 2.5: `RLCA` of 0 leaves Z 0 where `RLC B` of 0 sets it. -/
theorem test_rlca : stepped (fun g => (g.a, g.f.toByte)) (placed 8 0x07 fun g => { g with a := 0x00, f := Flags.ofByte 0xF0 }) =
    some (0x00, 0x00) := by decide +kernel

theorem test_rlc_b : stepped (fun g => (g.b, g.f.toByte)) (placed 16 0xCB00 fun g => { g with b := 0x00, f := Flags.ofByte 0x10 }) =
    some (0x00, 0x80) := by decide +kernel

/-- 2.5: `SRA L` keeps the sign. -/
theorem test_sra : stepped (fun g => (g.l, g.f.toByte)) (placed 16 0xCB2D fun g => { g with l := 0x81, f := Flags.ofByte 0x00 }) =
    some (0xC0, 0x10) := by decide +kernel

/-- 2.6: `BIT 0,B` on a clear bit; `RES 7,(HL)` on `LCDC`. -/
theorem test_bit : stepped (fun g => (g.b, g.f.toByte, g.cycles)) (placed 16 0xCB40 fun g =>
    { g with b := 0xFE, f := Flags.ofByte 0x10 }) = some (0xFE, 0xB0, 8) := by decide +kernel

theorem test_res_lcdc : stepped (fun g => (g.lcdc, g.cycles)) (placed 16 0xCBBE fun g => { g with h := 0xFF, l := 0x40 }) =
    some (0x11, 16) := by decide +kernel

/-- 2.7: `JR C` backward, taken. -/
theorem test_jr_c : stepped (fun g => (g.pc, g.cycles))
    ({ State.reset with gb := { State.reset.gb with pc := 0x0200, f := Flags.ofByte 0x10 } }.withFetchWord 24 0x00FC38) =
    some (0x01FE, 12) := by decide +kernel

/-- 2.7: `CALL nn` with `SP` in ROM: the pushes hit the latches. -/
theorem test_call_latches : stepped (fun g => (g.sp, g.pc, g.romBank, g.ramEnabled)) (placed 24 0x0200CD fun g =>
    { g with sp := 0x2001 }) = some (0x1FFF, 0x0200, 1, false) := by decide +kernel

/-- 2.7: `RETI` sets `ime` at once. -/
theorem test_reti : stepped (fun g => (g.pc, g.sp, g.ime)) (placed 8 0xD9 fun g =>
    (({ g with sp := 0xC000 } : GameBoy).setCell 0xC000 0x03).setCell 0xC001 0x01) = some (0x0103, 0xC002, true) := by decide +kernel

/-- 2.8: `CB CB` is `SET 1,E`; an undefined byte is skipped. -/
theorem test_cb_cb : stepped (fun g => (g.e, g.pc)) (placed 16 0xCBCB fun g => { g with e := 0x00 }) = some (0x02, 0x0102) := by
  decide +kernel

theorem test_undefined : stepped (fun g => (g.pc, g.cycles)) (placed 8 0xFD id) = some (0x0101, 4) := by decide +kernel

/-- 2.9: halted, with an enabled VBlank request, `ime` and `IRQ_VECTORING = vblank`: wake and entry in one step. -/
theorem test_interrupt_entry :
    stepped (fun g => (g.cycles, [g.sp, g.pc], [g.ime, g.halted], [g.ifReg, g.cell 0xFFFD, g.cell 0xFFFC]))
      (let s := placed 8 0x3C fun g => (({ g with halted := true, ime := true } : GameBoy).setCell 0xFF0F 0x01).setCell 0xFFFF 0x01
       { s with cfg := { s.cfg with irqVectoring := .vblank } }) =
      some (20, [0xFFFC, 0x0040], [false, false], [0x00, 0x01, 0x00]) := by decide +kernel

/-- V4: the cycles of a step complete line 143: `LY` is 144, the frame is ready, the request is set. -/
theorem test_vblank :
    stepped (fun g => (g.ly, g.scanlineCounter, g.ifReg, g.frameReady)) (placed 8 0x00 fun g =>
      ({ g with scanlineCounter := 452 } : GameBoy).setCell 0xFF44 0x8F) = some (0x90, 0, 0x01, true) := by decide +kernel

/-- M21: OAM DMA from page 0xFF reads through the memory map. -/
theorem test_oam_dma_io :
    (let g := (State.reset.gb.setCell 0xFF80 0xAB).memWrite 0xFF46 0xFF
     [g.cell 0xFE00, g.cell 0xFE40, g.cell 0xFE46, g.cell 0xFE47, g.cell 0xFE80]) = [0x0F, 0x91, 0xFF, 0xFC, 0xAB] := by
  decide +kernel

/-- X33: `ADD VF,V1` leaves the flag. -/
theorem test_ch8_add_vf : stepped8 (fun c => (c.reg 0xF, c.pc)) (placed8 0x8F14 fun c => (c.setReg 0xF 0xFF).setReg 1 0x02) =
    some (0x01, 0x202) := by decide +kernel

/-- X39: `SHR V1,V2` shifts `V2`. -/
theorem test_ch8_shr : stepped8 (fun c => (c.reg 1, c.reg 0xF)) (placed8 0x8126 fun c => (c.setReg 1 0xAA).setReg 2 0x05) =
    some (0x02, 0x01) := by decide +kernel

/-- X12: `CALL` on a full stack is a no-op but for the fetch. -/
theorem test_ch8_call_full : stepped8 (fun c => (c.pc, c.sp)) (placed8 0x2ABC fun c => { c with sp := 16 }) = some (0x202, 16) := by
  decide +kernel

/-- X62: a sprite at (63, 31) is clipped to one pixel. -/
theorem test_ch8_draw_clip :
    stepped8 (fun c => (c.gfx, c.reg 0xF)) (placed8 0xD011 fun c =>
      { ((c.setReg 0 0xFF).setReg 1 0xFF).store 0x300 0x81 with i := 0x300 }) =
      some ((Vector.replicate 32 0).set 31 (BitVec.twoPow 64 63), 0) := by decide +kernel

/-- X84: `LD B,V1` wraps at the end of memory. -/
theorem test_ch8_bcd : stepped8 (fun c => (c.load 0xFFE, c.load 0xFFF, c.load 0x000)) (placed8 0xF133 fun c =>
    { c.setReg 1 123 with i := 0xFFE }) = some (1, 2, 3) := by decide +kernel

/-- X86: `LD [I],V0` at 0xFFF: `I` wraps. -/
theorem test_ch8_store_regs : stepped8 (fun c => (c.i, c.load 0xFFF)) (placed8 0xF055 fun c =>
    { c.setReg 0 0x11 with i := 0xFFF }) = some (0x000, 0x11) := by decide +kernel

/-- X75 and T1: `LD V2,K` waits at the instruction; the press of key 5 ends the wait. -/
theorem test_ch8_wait_key : stepped8 (fun c => (c.pc, c.waitingForKey)) (placed8 0xF20A id) = some (0x200, true) ∧
    stepped8 (fun c => ((c.setKey 5 true).reg 2, (c.setKey 5 true).pc)) (placed8 0xF20A id) = some (5, 0x202) := by decide +kernel

/-- R463: `18 FE` at 0x0100, and `C3 00 01` there, are tight loops. -/
theorem test_tight_loops : (placed 24 0x00FE18 id).tightLoop ∧ (placed 24 0x0100C3 id).tightLoop :=
  ⟨⟨rfl, .inl (by decide +kernel), .inr rfl⟩, rfl, .inr (by decide +kernel), .inr rfl⟩

/-- R464: a frame tick of the host's list is a turn, and the calls after it stay for the next tick boundary. -/
theorem test_step_frame_event : seen (fun t => (t.gb.pc, t.gb.buttons, t.hostCalls))
    (step { placed 8 0x00 id with hostCalls := [.stepFrame, .call (.setButton 0 true)] }) =
      some (0x0101, 0xFF, [.call (.setButton 0 true)]) := by decide +kernel

/-- R454: 0x13 at 0x0147 is a recognized label and 0x02 is none. -/
theorem test_cartridge_labels :
    (GameBoy.loadImage (List.replicate 0x0147 0x00 ++ [0x13]) GameBoy.initial).headerCartridgeIsRecognized = true ∧
    (GameBoy.loadImage (List.replicate 0x0147 0x00 ++ [0x02]) GameBoy.initial).headerCartridgeIsRecognized = false := by
  decide +kernel

/-! ## Witnesses: for every statement with hypotheses, a state and operands that meet them -/

/-- An image loaded, `NOP` next. -/
def ready : State := placed 8 0x00 id

/-- The CHIP-8 machine's turn, a jump to itself next. -/
def ready8 : State := placed8 0x1200 id

/-- The policy the spec does not take, with an undefined byte next. -/
def faulting : State :=
  let s := placed 8 0xD3 id
  { s with cfg := { s.cfg with undefPolicy := .fault } }

/-- A request pending and enabled. -/
def requested (g : GameBoy) : GameBoy := (g.setCell 0xFF0F 0x01).setCell 0xFFFF 0x01

theorem witness_EncodeDecodeRoundTrip :
    (Instr.ch8_sys_nnn 0x0EF).wellFormed = true ∧ (Instr.ld_BC_nn 0xFFFF).wellFormed = true ∧ Instr.ld_BC_nn 0xFFFF ≠ .prefixCb := by
  decide +kernel

theorem witness_DecodedBytesAreTheEncoding :
    decode .gameBoy [0x01, 0xFF, 0xFF, 0x12] = .ok (.ld_BC_nn 0xFFFF, [0x12]) ∧
    decode .chip8 [0xFF, 0x65] = .ok (.ch8_ld_Vx_atI 0xF, []) := ⟨rfl, rfl⟩

theorem witness_UndefinedOpcodesSkip : ready.cfg.undefPolicy = .skip ∧ faulting.cfg.undefPolicy = .fault ∧
    exec .undefined_D3 faulting = .fault (.undefinedOpcode 0xD3 0x00FF) := ⟨rfl, rfl, rfl⟩

theorem witness_Chip8UnknownWordsAreIgnored : (placed8 0x5121 id).ch8.waitingForKey = false ∧
    decodeCh8 (placed8 0x5121 id).ch8.fetchWord = .error (.unknownChip8 0x5121) := by decide +kernel

theorem witness_StepRunsDecodedInstruction :
    ready.turnOf .gameBoy ∧ ready.gb.romLen ≠ 0 ∧ ready.gb.halted = false ∧ ready.takesInterrupt = false ∧
    decode .gameBoy [ready.gb.memRead (.fetch 0) ready.gb.pc, ready.gb.memRead (.fetch 1) (ready.gb.pc + 1),
      ready.gb.memRead (.fetch 2) (ready.gb.pc + 2)] = .ok (.nop, [0x00, 0x00]) :=
  ⟨⟨rfl, .inr ⟨rfl, rfl, rfl⟩⟩, by decide +kernel, rfl, by decide +kernel, by decide +kernel⟩

theorem witness_StepRunsDecodedInstruction_chip8 :
    ready8.turnOf .chip8 ∧ ready8.tickSteps < ready8.cfg.ch8Batch ∧ ready8.ch8.waitingForKey = false ∧
    decode .chip8 [ready8.ch8.load ready8.ch8.pc, ready8.ch8.load (ready8.ch8.pc + 1)] = .ok (.ch8_jp_nnn 0x200, []) :=
  ⟨⟨rfl, .inr ⟨rfl, rfl, rfl⟩⟩, by decide, rfl, by decide +kernel⟩

theorem witness_StepRunsDecodedInstruction_tick : ready.tickSteps = 0 ∧ { ready with tickSteps := 17555 }.tickSteps ≠ 0 := by
  decide +kernel

theorem witness_HaltedStepWaitsOrWakes :
    (let g := { ready.gb with halted := true }
     g.halted = true ∧ g.ifReg &&& g.ieReg = 0 ∧ g.romLen ≠ 0 ∧ (requested g).halted = true ∧ (requested g).ifReg &&& (requested g).ieReg ≠ 0) ∧
    { ready with gb := { ready.gb with halted := true } }.turnOf .gameBoy :=
  ⟨by decide +kernel, rfl, .inr ⟨rfl, rfl, rfl⟩⟩

theorem witness_InterruptEntry :
    (let s := { ready with gb := requested { ready.gb with ime := true }, cfg := { ready.cfg with irqVectoring := .vblank } }
     s.cfg.irqVectoring = .vblank ∧ s.gb.ime = true ∧ s.gb.ifReg.getLsbD 0 = true ∧ s.gb.ieReg.getLsbD 0 = true) := by
  decide +kernel

theorem witness_ImeIsNeverObservedWithoutVectoring :
    ready.cfg.irqVectoring = .none ∧ (∃ t, step ready = .next t) ∧ faulting.cfg.irqVectoring = .none ∧
      step faulting = .fault (.undefinedOpcode 0xD3 0x0100) :=
  ⟨rfl, next_of_seen (by decide +kernel), rfl, rfl⟩

theorem witness_EveryStepCompletes : ready.cfg.undefPolicy = .skip ∧ step faulting = .fault (.undefinedOpcode 0xD3 0x0100) :=
  ⟨rfl, rfl⟩

theorem witness_EveryTickEnds :
    (ready.cfg.undefPolicy = .skip ∧ ready.tickSteps = 0 ∧ ready.hostCalls = [] ∧ ready.running = true ∧ ready.paused = false ∧
      ready.active = .gameBoy ∧ ready.gb.romLen ≠ 0) ∧
    (ready8.cfg.undefPolicy = .skip ∧ ready8.tickSteps = 0 ∧ ready8.hostCalls = [] ∧ ready8.running = true ∧
      ready8.paused = false ∧ ready8.active = .chip8) :=
  ⟨⟨rfl, rfl, rfl, rfl, rfl, rfl, by decide +kernel⟩, rfl, rfl, rfl, rfl, rfl, rfl⟩

/-- What the invariant says of the CHIP-8 machine and of the tick holds as at reset, wherever a Game Boy program is placed. -/
theorem placed_inv (nbits w : Nat) (f : GameBoy → GameBoy) (h : (placed nbits w f).gb.Inv)
    (h8 : (placed nbits w f).ch8 = Chip8.initial) (ht : (placed nbits w f).tickBounded) : (placed nbits w f).Inv :=
  ⟨h, h8 ▸ { memoryCanonical := rfl, memoryPlaced := rfl, imageFits := Nat.zero_le _ }, ht⟩

/-- The invariant's checks as one Boolean, for a machine on numerals. -/
def gbInvChecks (g : GameBoy) : Bool :=
  Memory.wf busInit g.mem && g.mem.all (fun cell => storedAt cell.1) && g.cell 0xFF00 &&& 0xCF == 0 &&
    (Memory.wf romInit g.rom && Memory.below g.romLen g.rom && (g.romLen == 0 || 32768 ≤ g.romLen)) &&
    (g.romBank != 0 && decide (g.scanlineCounter < Config.lineCycles)) &&
    (Memory.wf pixelInit g.framebuffer && Memory.below 23040 g.framebuffer)

theorem gbInv_of_checks (g : GameBoy) (h : gbInvChecks g = true) : g.Inv := by
  simp only [gbInvChecks, Bool.and_eq_true, Bool.or_eq_true, beq_iff_eq, bne_iff_ne, decide_eq_true_eq] at h
  obtain ⟨⟨⟨⟨⟨hm, hp⟩, hj⟩, ⟨hr, hb⟩, hs⟩, hk, hc⟩, hf, hx⟩ := h
  exact { memCanonical := hm, memPlaced := hp, joypadSelector := hj, romCanonical := hr, romPlaced := hb, romSize := hs,
          bankNonzero := hk, counterBounded := hc, framebufferCanonical := hf, framebufferPlaced := hx }

theorem ready_inv : ready.Inv :=
  placed_inv 8 0x00 id (gbInv_of_checks _ (by decide +kernel)) rfl (by decide : 0 < 17556)

theorem witness_HaltedForGoodIsFinal :
    (let s := placed 8 0x76 (fun g => { g with halted := true })
     s.Inv ∧ s.active = .gameBoy ∧ s.hostCalls = [] ∧ s.gb.haltedForGood) :=
  ⟨placed_inv 8 0x76 _ (gbInv_of_checks _ (by decide +kernel)) rfl (by decide : 0 < 17556),
   rfl, rfl, rfl, by decide +kernel, .inl (by decide +kernel)⟩

theorem witness_StepKeepsInvariant : ready.Inv ∧ ∃ t, step ready = .next t := ⟨ready_inv, next_of_seen (by decide +kernel)⟩

theorem witness_InstructionsLeaveRomPpuAndDisplay :
    (∃ t, exec (.ld_at_nn_A 0xFF40) ready = .next t) ∧
    (∃ t, exec (.ch8_ld_Vx_nn 0xF 0x12) ready8 = .next t) ∧ Instr.ch8_ld_Vx_nn 0xF 0x12 ≠ .ch8_cls ∧
      (∀ x y n, Instr.ch8_ld_Vx_nn 0xF 0x12 ≠ .ch8_drw_Vx_Vy_n x y n) :=
  ⟨⟨_, rfl⟩, ⟨_, rfl⟩, nofun, nofun⟩

theorem witness_MachinesShareNothing : Instr.nop.machine = .gameBoy ∧ (∃ t, exec .nop ready = .next t) ∧
    Instr.ch8_cls.machine = .chip8 ∧ ∃ t, exec .ch8_cls ready8 = .next t := ⟨rfl, ⟨_, rfl⟩, rfl, _, rfl⟩

theorem witness_CyclesAreOneOfSix : Instr.nop.machine = .gameBoy ∧ (∃ t, exec .nop ready = .next t) ∧
    ∃ t, cpuStep ready = .next t := ⟨rfl, ⟨_, rfl⟩, next_of_seen (by decide +kernel)⟩

theorem witness_InputsComeOnlyByHostCalls : (∃ t, step ready = .next t) ∧ ready.hostCalls = [] ∧
    (∃ t, step { ready with hostCalls := [.stepFrame, .call .pause] } = .next t) ∧
    ∀ call rest, [HostEvent.stepFrame, .call .pause] ≠ .call call :: rest :=
  ⟨next_of_seen (by decide +kernel), rfl, next_of_seen (by decide +kernel), nofun⟩

theorem witness_GameBoyResetState : ready.gb.romLen ≠ 0 ∧ (0x8000 : Nat) ≠ 0xFF40 ∧ (0x8000 : Nat) ≠ 0xFF47 := by decide +kernel

theorem witness_LoadRomMapsTheImage :
    (List.replicate 32767 (0x00 : Byte)).length < 32768 ∧ 32768 ≤ (List.replicate 32768 (0x00 : Byte)).length ∧
    (0x7FFF : Word).toNat < (List.replicate 32768 (0x00 : Byte)).length ∧ (0x7FFF : Word).toNat < 0x8000 := by
  simp only [List.length_replicate]
  decide

theorem witness_Chip8LoadAndReset :
    3584 < (List.replicate 3585 (0x00 : Byte)).length ∧ (List.replicate 3584 (0x00 : Byte)).length ≤ 3584 ∧
    ¬ (0x050 ≤ (0x0A0 : Addr12).toNat ∧ (0x0A0 : Addr12).toNat < 0x0A0) ∧
    ¬ (0x200 ≤ (0x0A0 : Addr12).toNat ∧ (0x0A0 : Addr12).toNat < 0x200 + (List.replicate 3584 (0x00 : Byte)).length) ∧
    { ready8 with ch8 := Chip8.ofImage [0x12, 0x00] }.ch8.image = [0x12, 0x00] := by
  simp only [List.length_replicate]
  decide +kernel

theorem witness_HostCallsBetweenTicks :
    (let s := { ready with hostCalls := [.call (.setButton 0 true), .stepFrame, .call (.setButton 0 false)] }
     s.tickSteps = 0 ∧ s.hostCalls = .call (.setButton 0 true) :: [.stepFrame, .call (.setButton 0 false)]) ∧
    (let s := { ready with hostCalls := [.stepFrame, .call .pause] }
     s.tickSteps = 0 ∧ s.hostCalls = .stepFrame :: [.call .pause] ∧ { s with tickSteps := 17555 }.tickSteps ≠ 0) ∧
    (State.reset.gb.romLen = 0 ∧ State.reset.active = .gameBoy ∧ State.reset.hostCalls = []) ∧
    ({ ready with paused := true }.tickSteps = 0 ∧ { ready with paused := true }.hostCalls = [] ∧
      { ready with paused := true }.paused = true ∧ { ready with paused := true }.gb.romLen ≠ 0) := by decide +kernel

theorem witness_canonical_memory : Memory.wf busInit ready.gb.mem = true ∧ Memory.wf pixelInit ready.gb.framebuffer = true ∧
    Memory.wf ch8Init ready8.ch8.memory = true ∧ Memory.wf busInit (requested ready.gb).mem = true := by decide +kernel

/-- Both ends of every range. -/
theorem witness_ReadByAddressRange :
    ([(0x0000 : Word), 0x3FFF].all fun a => decide (a.toNat < 0x4000) && decide (a.toNat < ready.gb.romLen)) = true ∧
    ([(0x4000 : Word), 0x7FFF].all fun a => decide (0x4000 ≤ a.toNat) && decide (a.toNat < 0x8000) &&
      decide (ready.gb.romBank.toNat * 0x4000 + (a.toNat - 0x4000) < ready.gb.romLen)) = true ∧
    ([(0x8000 : Word), 0x9FFF].all fun a => decide (0x8000 ≤ a.toNat) && decide (a.toNat < 0xA000)) = true ∧
    ([(0xA000 : Word), 0xBFFF].all fun a => decide (0xA000 ≤ a.toNat) && decide (a.toNat < 0xC000)) = true ∧
    ([(0xC000 : Word), 0xDFFF].all fun a => decide (0xC000 ≤ a.toNat) && decide (a.toNat < 0xE000)) = true ∧
    ([(0xE000 : Word), 0xFDFF].all fun a => decide (0xE000 ≤ a.toNat) && decide (a.toNat < 0xFE00)) = true ∧
    ([(0xFE00 : Word), 0xFE9F].all fun a => decide (0xFE00 ≤ a.toNat) && decide (a.toNat < 0xFEA0)) = true ∧
    ([(0xFEA0 : Word), 0xFEFF].all fun a => decide (0xFEA0 ≤ a.toNat) && decide (a.toNat < 0xFF00)) = true ∧
    ([(0xFF01 : Word), 0xFFFF].all fun a => decide (0xFF00 < a.toNat)) = true := by decide +kernel

theorem witness_WrittenBytesReadBackAndFrame :
    ([(0x8000 : Word), 0x9FFF, 0xC000, 0xDFFF, 0xE000, 0xFDFF, 0xFE00, 0xFE9F, 0xFF01, 0xFF46, 0xFF7F, 0xFF80, 0xFFFE, 0xFFFF].all
      plainStorage) = true ∧ regionOf 0xA000 = .eram ∧ regionOf 0xBFFF = .eram ∧
    ([((0x0000 : Word), (0x9FFF : Word)), (0x3FFF, 0x3FFF), (0x7FFF, 0x4000), (0xC000, 0xC001), (0xFEA0, 0xFEA0), (0xFF46, 0xFF45)].all
      fun p => !mayTouch p.1 p.2) = true := by decide +kernel

theorem witness_BankLatchesAndRamGate :
    (0x1FFF : Word).toNat < 0x2000 ∧ 0x2000 ≤ (0x2000 : Word).toNat ∧ (0x3FFF : Word).toNat < 0x4000 ∧
    0x4000 ≤ (0x4000 : Word).toNat ∧ (0x7FFF : Word).toNat < 0x8000 ∧ 0xFEA0 ≤ (0xFEA0 : Word).toNat ∧
    (0xFEFF : Word).toNat < 0xFF00 ∧ 0xA000 ≤ (0xA000 : Word).toNat ∧ (0xBFFF : Word).toNat < 0xC000 ∧
    ready.gb.ramEnabled = false ∧ (ready.gb.memWrite 0x0000 0x0A).ramEnabled = true := by decide +kernel

theorem witness_EchoIsWorkRam : 0xC000 ≤ (0xC000 : Word).toNat ∧ 0xDE00 ≤ (0xDE00 : Word).toNat ∧ (0xDFFF : Word).toNat < 0xE000 ∧
    0xE000 ≤ (0xE000 : Word).toNat ∧ (0xE000 : Word).toNat < 0xFE00 ∧
    0xE000 ≤ (0xFDFF : Word).toNat ∧ (0xFDFF : Word).toNat < 0xFE00 := by decide

theorem witness_OamDmaCopies : Memory.wf busInit ready.gb.mem = true ∧ (0xFEA0 : Word) ≠ 0xFF46 ∧
    regionOf 0xFEA0 ≠ .oam ∧ regionOf 0xFDFF ≠ .oam := by decide +kernel

theorem witness_PpuAdvanceByLines :
    (ready.gb.setCell 0xFF40 0x11).lcdc.getLsbD 7 = false ∧ ready.gb.lcdc.getLsbD 7 = true ∧
    ready.gb.scanlineCounter + 455 < 456 ∧ 456 ≤ ready.gb.scanlineCounter + 456 ∧ ready.gb.scanlineCounter + 911 < 912 ∧
    ((ready.gb.setCell 0xFF44 0x8F).ly.toNat + 1) % 154 = 144 ∧ ((ready.gb.setCell 0xFF44 0x99).ly.toNat + 1) % 154 ≠ 144 := by
  decide +kernel

theorem witness_ScanlinePixels : (143 : Nat) < 144 ∧ Memory.wf pixelInit ready.gb.framebuffer = true ∧ (159 : Nat) < 160 ∧
    (142 : Nat) ≠ 143 := by decide +kernel

/-- A frame clause of the storing instructions: a canonical memory, and an address outside the stored bytes, next to them. -/
theorem witness_runsStoring : Memory.wf busInit ready.gb.mem = true ∧ mayTouch ready.gb.hl 0x9000 = false ∧
    mayTouch 0xC000 0xC001 = false ∧ mayTouchTwo 0xFFFC 0xFFFE = false ∧ mayTouchTwo 0xFFFF 0xFFFE = false := by decide +kernel

theorem witness_StackRoundTrips : Memory.wf busInit ready.gb.mem = true ∧ plainStorage (ready.gb.sp - 1) = true ∧
    plainStorage (ready.gb.sp - 2) = true ∧ regionOf (ready.gb.sp - 1) ≠ .dma ∧ regionOf (ready.gb.sp - 2) ≠ .dma := by
  decide +kernel

theorem witness_AddAndSubtractResults : AluOp.add = .add ∨ AluOp.add = .adc := .inl rfl

theorem witness_AddAndSubtractResults_subtract : AluOp.cp = .sub ∨ AluOp.cp = .sbc ∨ AluOp.cp = .cp := .inr (.inr rfl)

theorem witness_LogicResult : AluOp.xor = .and ∨ AluOp.xor = .xor ∨ AluOp.xor = .or := .inr (.inl rfl)

theorem witness_DaaGivesDecimalResults : isBcd 0x99 = true ∧ isBcd 0x00 = true ∧ (AluOp.adc = .add ∨ AluOp.adc = .adc) ∧
    (AluOp.sbc = .sub ∨ AluOp.sbc = .sbc) := by decide

theorem witness_RotateAndShiftBits : (0 : Nat) < 8 ∧ (7 : Nat) < 8 := by decide

theorem witness_BitInstructions :
    (∀ k, k < 8 → (0x7F : Byte).getLsbD k = (decide (k ≠ (7 : Fin 8).val) && (0xFF : Byte).getLsbD k)) ∧
    (∀ k, k < 8 → (0x01 : Byte).getLsbD k = (decide (k = (0 : Fin 8).val) || (0x00 : Byte).getLsbD k)) := by decide

theorem witness_JumpsAndReturns :
    ready.gb.memRead (.data 1) (ready.gb.sp + 1) ++ ready.gb.memRead (.data 0) ready.gb.sp = (0x0000 : Word) ∧
    ready.gb.cond .z = true ∧ ready.gb.cond .nz = false := by decide +kernel

theorem witness_CallsAndRestarts : ready.gb.cond .c = true ∧ ready.gb.cond .nc = false := by decide +kernel

theorem witness_SystemInstructions :
    (let s := placed 16 0xCBFF fun g => { g with pc := 0x0100 }
     s.gb.memRead (.fetch 1) (s.gb.pc + 1) = 0xFF ∧
       { s with gb := { s.gb with pc := 0x0101 } }.gb.memRead (.fetch 1) 0x0101 = 0xFF) ∧
    decode .gameBoy [0xCB, 0xFF] = .ok (.set_7_A, []) := ⟨by decide +kernel, rfl⟩

theorem witness_IncAndDecByte : ready.gb.memRead (.data 0) ready.gb.hl = 0x00 := by decide +kernel

theorem witness_RotateAndShiftForms : (Instr.rra, ShiftOp.rr) ∈ [(Instr.rlca, ShiftOp.rlc), (.rrca, .rrc), (.rla, .rl), (.rra, .rr)] ∧
    ready.gb.memRead (.data 0) ready.gb.hl = 0x00 := by decide +kernel

theorem witness_Chip8CallAndReturn : { ready8.ch8 with sp := 16 }.sp.val = 16 ∧ ready8.ch8.sp.val = 0 ∧
    { ready8.ch8 with sp := 15 }.sp.val = 15 ∧ { ready8.ch8 with sp := 16 }.sp.val = 15 + 1 ∧ (15 : Nat) < 16 := by decide +kernel

theorem witness_Chip8FlagArithmetic :
    (let c := (ready8.ch8.setReg 1 0xFF).setReg 2 0x01
     ((c.reg 1).toNat + (c.reg 2).toNat) % 256 = 0 ∧ ((c.reg 1).toNat + (c.reg 2).toNat) / 256 = 1 ∧
       ((c.reg 2).toNat + 256 - (c.reg 1).toNat) % 256 = 2 ∧ ¬ (c.reg 1).toNat ≤ (c.reg 2).toNat ∧ (c.reg 1).toNat / 128 = 1 ∧
       (1 : Nibble) ≠ 0xF) := by decide +kernel

theorem witness_Chip8Draw :
    (let c := { (ready8.ch8.setReg 0 0x3F).store 0x300 0x80 with i := 0x300 }
     c.spriteBit 0 1 1 63 0 = true ∧ c.pixel 63 0 = false ∧ (ch8Drw 0 1 1 c).pixel 63 0 = true) := by decide +kernel

theorem witness_Chip8DrawTwiceRestores :
    seen (fun t => decide (t.ch8.reg 0 = ready8.ch8.reg 0) && decide (t.ch8.reg 1 = ready8.ch8.reg 1))
      (exec (.ch8_drw_Vx_Vy_n 0 1 5) ready8) = some true := by decide +kernel

theorem witness_Chip8MemoryTransfers : Memory.wf ch8Init ready8.ch8.memory = true ∧ (0xF : Nibble) ≤ 0xF ∧ (0x0 : Nibble) < 0xF ∧
    (0x303 : Addr12) ≠ 0x300 ∧ (0x303 : Addr12) ≠ 0x300 + 1 ∧ (0x303 : Addr12) ≠ 0x300 + 2 := by decide +kernel

theorem witness_Chip8KeyWaitAndTimers :
    (let s := { ready8 with ch8 := ch8WaitKey 0xF ready8.ch8 }
     s.ch8.waitingForKey = true ∧ s.ch8.key 0xF = false ∧ ready8.ch8.waitingForKey = false) := by decide +kernel

/-- The last turn of a batch, an earlier one, and the turn of an empty batch. -/
theorem witness_Chip8KeyWaitAndTimers_turns :
    ({ ready8 with tickSteps := 8 }.turnOf .chip8 ∧ ¬ (8 + 1 < ready8.cfg.ch8Batch) ∧ 8 < ready8.cfg.ch8Batch) ∧
    (ready8.turnOf .chip8 ∧ 0 + 1 < ready8.cfg.ch8Batch) ∧
    (let s := { ready8 with cfg := { ready8.cfg with ch8Batch := 0 } }
     s.turnOf .chip8 ∧ s.cfg.ch8Batch ≤ s.tickSteps) :=
  ⟨⟨⟨rfl, .inl (by decide)⟩, by decide, by decide⟩, ⟨⟨rfl, .inr ⟨rfl, rfl, rfl⟩⟩, by decide⟩, ⟨rfl, .inr ⟨rfl, rfl, rfl⟩⟩, by decide⟩

end Sys2Proof.Tests
end

section
/-! SUPPORT. Proofs: the instructions that the Game Boy machine fetches are Game Boy instructions. -/

namespace Sys2Proof

/-! ## Whose instructions the decoder reads -/

/-- The instruction that a page entry gives with the two bytes after it. -/
def PageEntry.instr (b1 b2 : Byte) : PageEntry → Instr
  | .op i => i
  | .opN f => f b1
  | .opE f => f b1
  | .opNN f => f (joinBytes b2 b1)
  | .cb => cbInstr b1

@[simp] theorem Instr.machine_ldRR (dst src : R8) : (Instr.ldRR dst src).machine = .gameBoy := by cases dst <;> cases src <;> rfl
@[simp] theorem Instr.machine_ldRN (dst : R8) (n : Byte) : (Instr.ldRN dst n).machine = .gameBoy := by cases dst <;> rfl
@[simp] theorem Instr.machine_ldRHL (dst : R8) : (Instr.ldRHL dst).machine = .gameBoy := by cases dst <;> rfl
@[simp] theorem Instr.machine_ldHLR (src : R8) : (Instr.ldHLR src).machine = .gameBoy := by cases src <;> rfl
@[simp] theorem Instr.machine_ldRRnn (p : R16) (nn : Word) : (Instr.ldRRnn p nn).machine = .gameBoy := by cases p <;> rfl
@[simp] theorem Instr.machine_addHLrr (p : R16) : (Instr.addHLrr p).machine = .gameBoy := by cases p <;> rfl
@[simp] theorem Instr.machine_incRR (p : R16) : (Instr.incRR p).machine = .gameBoy := by cases p <;> rfl
@[simp] theorem Instr.machine_decRR (p : R16) : (Instr.decRR p).machine = .gameBoy := by cases p <;> rfl
@[simp] theorem Instr.machine_pushRR (p : R16Stk) : (Instr.pushRR p).machine = .gameBoy := by cases p <;> rfl
@[simp] theorem Instr.machine_popRR (p : R16Stk) : (Instr.popRR p).machine = .gameBoy := by cases p <;> rfl
@[simp] theorem Instr.machine_jrCC (cc : Cond) (e : Byte) : (Instr.jrCC cc e).machine = .gameBoy := by cases cc <;> rfl
@[simp] theorem Instr.machine_jpCC (cc : Cond) (nn : Word) : (Instr.jpCC cc nn).machine = .gameBoy := by cases cc <;> rfl
@[simp] theorem Instr.machine_callCC (cc : Cond) (nn : Word) : (Instr.callCC cc nn).machine = .gameBoy := by cases cc <;> rfl
@[simp] theorem Instr.machine_retCC (cc : Cond) : (Instr.retCC cc).machine = .gameBoy := by cases cc <;> rfl
@[simp] theorem Instr.machine_rstT (t : Fin 8) : (Instr.rstT t).machine = .gameBoy := by revert t; decide
@[simp] theorem Instr.machine_aluImm (op : AluOp) (n : Byte) : (Instr.aluImm op n).machine = .gameBoy := by cases op <;> rfl
@[simp] theorem Instr.machine_incOp (x : Operand) : (Instr.incOp x).machine = .gameBoy := by unfold Instr.incOp; split <;> rfl
@[simp] theorem Instr.machine_decOp (x : Operand) : (Instr.decOp x).machine = .gameBoy := by unfold Instr.decOp; split <;> rfl
@[simp] theorem Instr.machine_aluOp (op : AluOp) (x : Operand) : (Instr.aluOp op x).machine = .gameBoy := by
  unfold Instr.aluOp; split <;> rfl

/-- The CB page holds Game Boy instructions alone. -/
@[simp] theorem cbInstr_machine (op2 : Byte) : (cbInstr op2).machine = .gameBoy := by
  revert op2
  decide

section
variable (op b1 b2 : Byte)

theorem primaryBlock0_machine : ((primaryBlock0 op).instr b1 b2).machine = .gameBoy := by
  unfold primaryBlock0
  repeat' split
  any_goals rfl
  all_goals simp [PageEntry.instr]

theorem primaryBlock1_machine : ((primaryBlock1 op).instr b1 b2).machine = .gameBoy := by
  unfold primaryBlock1
  split
  any_goals rfl
  all_goals simp [PageEntry.instr]

theorem primaryBlock3_machine : ((primaryBlock3 op).instr b1 b2).machine = .gameBoy := by
  unfold primaryBlock3
  split
  any_goals rfl
  all_goals simp [PageEntry.instr]

/-- The primary page holds Game Boy instructions alone. -/
theorem primaryEntry_machine : ((primaryEntry op).instr b1 b2).machine = .gameBoy := by
  unfold primaryEntry
  split
  · exact primaryBlock0_machine op b1 b2
  · exact primaryBlock1_machine op b1 b2
  · exact Instr.machine_aluOp _ _
  · exact primaryBlock3_machine op b1 b2

end

namespace Machine

theorem instrOfBytes_instr (b0 b1 b2 : Byte) : (instrOfBytes b0 b1 b2).1 = (primaryEntry b0).instr b1 b2 := by
  unfold instrOfBytes
  cases primaryEntry b0 <;> rfl

/-- What the Game Boy machine fetches is a Game Boy instruction. -/
theorem fetchInstr_machine (g : GameBoy) : g.fetchInstr.1.machine = .gameBoy := by
  unfold GameBoy.fetchInstr
  rw [instrOfBytes_instr]
  exact primaryEntry_machine _ _ _

end Machine

end Sys2Proof
end

section
/-! SUPPORT. Proofs: what every instruction means, as an operation on its own machine; what the operations cost and leave alone. -/

namespace Sys2Proof.Machine

/-! ## The operations and the meanings -/

/-- The shared operations of the Game Boy machine that the instructions are made of (rules R130 to R285). -/
inductive GameBoyOperation : (GameBoy → GameBoy) → Prop
  | ldRR (dst src : R8) : GameBoyOperation (ldRR dst src)
  | ldRN (dst : R8) (n : Byte) : GameBoyOperation (ldRN dst n)
  | ldRHL (dst : R8) : GameBoyOperation (ldRHL dst)
  | ldHLR (src : R8) : GameBoyOperation (ldHLR src)
  | ldHLN (n : Byte) : GameBoyOperation (ldHLN n)
  | loadA (addr : GameBoy → Word) {cost : Nat} (h : cost = 8 ∨ cost = 12 ∨ cost = 16) :
      GameBoyOperation fun g => loadA (addr g) cost g
  | storeA (addr : GameBoy → Word) {cost : Nat} (h : cost = 8 ∨ cost = 12 ∨ cost = 16) :
      GameBoyOperation fun g => storeA (addr g) cost g
  | loadAStep (delta : Word) : GameBoyOperation (loadAStep delta)
  | storeAStep (delta : Word) : GameBoyOperation (storeAStep delta)
  | ldRRnn (p : R16) (nn : Word) : GameBoyOperation (ldRRnn p nn)
  | ldNnSp (nn : Word) : GameBoyOperation (ldNnSp nn)
  | ldSpHl : GameBoyOperation ldSpHl
  | ldHlSpE (e : Byte) : GameBoyOperation (ldHlSpE e)
  | pushPair (p : R16Stk) : GameBoyOperation (pushPair p)
  | popPair (p : R16Stk) : GameBoyOperation (popPair p)
  | aluOperand (op : AluOp) (x : Operand) : GameBoyOperation (aluOperand op x)
  | aluImmediate (op : AluOp) (n : Byte) : GameBoyOperation (aluImmediate op n)
  | incOperand (x : Operand) : GameBoyOperation (incOperand x)
  | decOperand (x : Operand) : GameBoyOperation (decOperand x)
  | daa : GameBoyOperation runDaa
  | cpl : GameBoyOperation runCpl
  | scf : GameBoyOperation runScf
  | ccf : GameBoyOperation runCcf
  | addHl (p : R16) : GameBoyOperation (addHl p)
  | incPair (p : R16) : GameBoyOperation (incPair p)
  | decPair (p : R16) : GameBoyOperation (decPair p)
  | addSpE (e : Byte) : GameBoyOperation (addSpE e)
  | rotateA (op : ShiftOp) : GameBoyOperation (rotateA op)
  | shiftOperand (op : ShiftOp) (x : Operand) : GameBoyOperation (shiftOperand op x)
  | bitTest (b : Fin 8) (x : Operand) : GameBoyOperation (bitTest b x)
  | bitReset (b : Fin 8) (x : Operand) : GameBoyOperation (bitReset b x)
  | bitSet (b : Fin 8) (x : Operand) : GameBoyOperation (bitSet b x)
  | jump (nn : Word) : GameBoyOperation (jump nn)
  | jumpIf (cc : Cond) (nn : Word) : GameBoyOperation (jumpIf cc nn)
  | jumpHl : GameBoyOperation jumpHl
  | jumpRel (e : Byte) : GameBoyOperation (jumpRel e)
  | jumpRelIf (cc : Cond) (e : Byte) : GameBoyOperation (jumpRelIf cc e)
  | call (nn : Word) : GameBoyOperation (call nn)
  | callIf (cc : Cond) (nn : Word) : GameBoyOperation (callIf cc nn)
  | returnAlways : GameBoyOperation returnAlways
  | returnIf (cc : Cond) : GameBoyOperation (returnIf cc)
  | returnInterrupt : GameBoyOperation returnInterrupt
  | restart (ttt : Fin 8) : GameBoyOperation (restart ttt)
  | idle4 : GameBoyOperation idle4
  | halt : GameBoyOperation halt
  | setIme (v : Bool) : GameBoyOperation (setIme v)
  | runPrefix : GameBoyOperation runPrefix

/-- The operations of the CHIP-8 machine that its instructions are made of (rules R304 to R338). -/
inductive Chip8Operation : (Chip8 → Chip8) → Prop
  | cls : Chip8Operation ch8Cls
  | ret : Chip8Operation ch8Ret
  | sys : Chip8Operation id
  | jp (nnn : Addr12) : Chip8Operation (ch8Jp nnn)
  | call (nnn : Addr12) : Chip8Operation (ch8Call nnn)
  | skipIf (test : Chip8 → Bool) : Chip8Operation fun c => c.skipIf (test c)
  | setReg (x : Nibble) (v : Chip8 → Byte) : Chip8Operation fun c => c.setReg x (v c)
  | add (x y : Nibble) : Chip8Operation (ch8Add x y)
  | sub (x y : Nibble) : Chip8Operation (ch8Sub x y)
  | subn (x y : Nibble) : Chip8Operation (ch8Subn x y)
  | shr (x y : Nibble) : Chip8Operation (ch8Shr x y)
  | shl (x y : Nibble) : Chip8Operation (ch8Shl x y)
  | rnd (x : Nibble) (nn : Byte) : Chip8Operation (ch8Rnd x nn)
  | drw (x y n : Nibble) : Chip8Operation (ch8Drw x y n)
  | setIndex (v : Chip8 → Addr12) : Chip8Operation fun c => { c with i := v c }
  | setPc (v : Chip8 → Addr12) : Chip8Operation fun c => { c with pc := v c }
  | setDelay (v : Chip8 → Byte) : Chip8Operation fun c => { c with delay := v c }
  | setSound (v : Chip8 → Byte) : Chip8Operation fun c => { c with sound := v c }
  | waitKey (x : Nibble) : Chip8Operation (ch8WaitKey x)
  | bcd (x : Nibble) : Chip8Operation (ch8Bcd x)
  | storeRegs (x : Nibble) : Chip8Operation (ch8StoreRegs x)
  | loadRegs (x : Nibble) : Chip8Operation (ch8LoadRegs x)

/-- What an instruction of each machine can mean: an operation on that machine, or the answer to an undefined first byte (rule R286). -/
inductive Meaning : MachineId → (State → Result) → Prop
  | gameBoy {f : GameBoy → GameBoy} (h : GameBoyOperation f) : Meaning .gameBoy (gbNext f)
  | undefinedByte (op : Byte) : Meaning .gameBoy (undefined op)
  | chip8 {f : Chip8 → Chip8} (h : Chip8Operation f) : Meaning .chip8 (ch8Next f)

/-- The meaning of every row of the opcode table, by the operation it is a case of. -/
theorem exec_meaning (i : Instr) : Meaning i.machine (exec i) := by
  cases i
  case undefined_D3 | undefined_DB | undefined_DD | undefined_E3 | undefined_E4 | undefined_EB | undefined_EC | undefined_ED
      | undefined_F4 | undefined_FC | undefined_FD => exact .undefinedByte _
  case ld_A_atBC => exact .gameBoy (.loadA (fun g => g.bc) (.inl rfl))
  case ld_A_atDE => exact .gameBoy (.loadA (fun g => g.de) (.inl rfl))
  case ld_A_atC => exact .gameBoy (.loadA (fun g => highPage g.c) (.inl rfl))
  case ldh_A_at_n n => exact .gameBoy (.loadA (fun _ => highPage n) (.inr (.inl rfl)))
  case ld_A_at_nn nn => exact .gameBoy (.loadA (fun _ => nn) (.inr (.inr rfl)))
  case ld_atBC_A => exact .gameBoy (.storeA (fun g => g.bc) (.inl rfl))
  case ld_atDE_A => exact .gameBoy (.storeA (fun g => g.de) (.inl rfl))
  case ld_atC_A => exact .gameBoy (.storeA (fun g => highPage g.c) (.inl rfl))
  case ldh_at_n_A n => exact .gameBoy (.storeA (fun _ => highPage n) (.inr (.inl rfl)))
  case ld_at_nn_A nn => exact .gameBoy (.storeA (fun _ => nn) (.inr (.inr rfl)))
  case ch8_se_Vx_nn x nn => exact .chip8 (.skipIf fun c => c.reg x == nn)
  case ch8_sne_Vx_nn x nn => exact .chip8 (.skipIf fun c => c.reg x != nn)
  case ch8_se_Vx_Vy x y => exact .chip8 (.skipIf fun c => c.reg x == c.reg y)
  case ch8_sne_Vx_Vy x y => exact .chip8 (.skipIf fun c => c.reg x != c.reg y)
  case ch8_skp_Vx x => exact .chip8 (.skipIf fun c => keyOf x c)
  case ch8_sknp_Vx x => exact .chip8 (.skipIf fun c => !keyOf x c)
  case ch8_ld_Vx_nn x nn => exact .chip8 (.setReg x fun _ => nn)
  case ch8_add_Vx_nn x nn => exact .chip8 (.setReg x fun c => c.reg x + nn)
  case ch8_ld_Vx_Vy x y => exact .chip8 (.setReg x fun c => c.reg y)
  case ch8_or_Vx_Vy x y => exact .chip8 (.setReg x fun c => c.reg x ||| c.reg y)
  case ch8_and_Vx_Vy x y => exact .chip8 (.setReg x fun c => c.reg x &&& c.reg y)
  case ch8_xor_Vx_Vy x y => exact .chip8 (.setReg x fun c => c.reg x ^^^ c.reg y)
  case ch8_ld_Vx_DT x => exact .chip8 (.setReg x fun c => c.delay)
  case ch8_ld_I_nnn nnn => exact .chip8 (.setIndex fun _ => nnn)
  case ch8_add_I_Vx x => exact .chip8 (.setIndex fun c => c.i + (c.reg x).setWidth 12)
  case ch8_ld_F_Vx x => exact .chip8 (.setIndex fun c => glyphAddr (c.reg x))
  case ch8_jp_V0_nnn nnn => exact .chip8 (.setPc fun c => nnn + (c.reg 0).setWidth 12)
  case ch8_ld_DT_Vx x => exact .chip8 (.setDelay fun c => c.reg x)
  case ch8_ld_ST_Vx x => exact .chip8 (.setSound fun c => c.reg x)
  case ch8_cls | ch8_ret | ch8_sys_nnn | ch8_jp_nnn | ch8_call_nnn | ch8_add_Vx_Vy | ch8_sub_Vx_Vy | ch8_subn_Vx_Vy | ch8_shr_Vx_Vy
      | ch8_shl_Vx_Vy | ch8_rnd_Vx_nn | ch8_drw_Vx_Vy_n | ch8_ld_Vx_K | ch8_ld_B_Vx | ch8_ld_atI_Vx | ch8_ld_Vx_atI =>
    refine .chip8 ?_; with_reducible constructor
  all_goals refine .gameBoy ?_; with_reducible constructor

/-! ## Costs -/

/-- The costs of an instruction in T-states (rule R7). -/
def stepCosts : List Nat := [4, 8, 12, 16, 20, 24]

theorem operandCost_mem {register memory : Nat} (hr : register ∈ stepCosts) (hm : memory ∈ stepCosts) (x : Operand) :
    operandCost x register memory ∈ stepCosts := by
  cases x with
  | reg r => exact hr
  | atHL => exact hm

/-- A byte of the CB page costs 8, or 12 or 16 at `HL` (rules R234 to R255). -/
theorem runCb_cycles_mem (op2 : Byte) (g : GameBoy) : (runCb op2 g).cycles ∈ stepCosts := by
  unfold runCb
  split <;> exact operandCost_mem (by decide) (by decide) _

/-- Every operation costs one of the six (rules R7, R462). -/
theorem GameBoyOperation.cycles_mem {f : GameBoy → GameBoy} (h : GameBoyOperation f) (g : GameBoy) :
    (f g).cycles ∈ stepCosts := by
  cases h
  case loadA addr cost h | storeA addr cost h => rcases h with rfl | rfl | rfl <;> exact List.mem_of_elem_eq_true rfl
  case aluOperand | incOperand | decOperand | shiftOperand | bitTest | bitReset | bitSet =>
    exact operandCost_mem (by decide) (by decide) _
  case jumpIf cc nn => unfold Machine.jumpIf; split <;> exact List.mem_of_elem_eq_true rfl
  case jumpRelIf cc e => unfold Machine.jumpRelIf; split <;> exact List.mem_of_elem_eq_true rfl
  case callIf cc nn => unfold Machine.callIf; split <;> exact List.mem_of_elem_eq_true rfl
  case returnIf cc => unfold Machine.returnIf; split <;> exact List.mem_of_elem_eq_true rfl
  case runPrefix => exact runCb_cycles_mem _ _
  all_goals exact List.mem_of_elem_eq_true rfl

/-! ## What no instruction writes -/

/-- What no instruction writes (rules R30, R36, R37): the ROM image, the input latch, and the PPU's hidden state. -/
def GameBoy.unwritten (g : GameBoy) : (Memory Byte × Nat × Byte) × Nat × Bool × Memory (BitVec 2) :=
  ((g.rom, g.romLen, g.buttons), g.scanlineCounter, g.frameReady, g.framebuffer)

@[simp] theorem GameBoy.unwritten_setR8 (g : GameBoy) (r : R8) (v : Byte) : (g.setR8 r v).unwritten = g.unwritten := by
  cases r <;> rfl
@[simp] theorem GameBoy.unwritten_setR16 (g : GameBoy) (p : R16) (v : Word) : (g.setR16 p v).unwritten = g.unwritten := by
  cases p <;> rfl
@[simp] theorem GameBoy.unwritten_setR16stk (g : GameBoy) (p : R16Stk) (v : Word) :
    (g.setR16stk p v).unwritten = g.unwritten := by
  cases p <;> rfl
@[simp] theorem GameBoy.unwritten_memWrite (g : GameBoy) (a : Word) (v : Byte) : (g.memWrite a v).unwritten = g.unwritten :=
  GameBoy.memWrite_keeps GameBoy.unwritten (fun _ _ _ _ => rfl) g a v
@[simp] theorem GameBoy.unwritten_memWrite16 (g : GameBoy) (a v : Word) : (g.memWrite16 a v).unwritten = g.unwritten :=
  GameBoy.memWrite16_keeps GameBoy.unwritten (fun _ _ _ _ => rfl) g a v
@[simp] theorem GameBoy.unwritten_push16 (g : GameBoy) (v : Word) : (g.push16 v).unwritten = g.unwritten :=
  GameBoy.push16_keeps GameBoy.unwritten (fun _ _ _ _ _ => rfl) g v
@[simp] theorem GameBoy.unwritten_put (g : GameBoy) (x : Operand) (v : Byte) : (g.put x v).unwritten = g.unwritten := by
  cases x with
  | reg r => exact g.unwritten_setR8 r v
  | atHL => exact g.unwritten_memWrite g.hl v

theorem GameBoy.unwritten_runCb (op2 : Byte) (g : GameBoy) : (runCb op2 g).unwritten = g.unwritten := by
  unfold runCb
  split
  · exact g.unwritten_put _ _
  · rfl
  · exact g.unwritten_put _ _
  · exact g.unwritten_put _ _

theorem GameBoyOperation.unwritten_eq {f : GameBoy → GameBoy} (h : GameBoyOperation f) (g : GameBoy) :
    (f g).unwritten = g.unwritten := by
  cases h
  case ldRR | ldRN | ldRHL => exact g.unwritten_setR8 _ _
  case ldRRnn | incPair | decPair => exact g.unwritten_setR16 _ _
  case popPair => exact g.popped.unwritten_setR16stk _ _
  case ldHLR | ldHLN | storeA | storeAStep => exact g.unwritten_memWrite _ _
  case ldNnSp => exact g.unwritten_memWrite16 _ _
  case pushPair | call | restart => exact g.unwritten_push16 _
  case incOperand | decOperand | shiftOperand | bitReset | bitSet => exact g.unwritten_put _ _
  case jumpIf => unfold Machine.jumpIf; split <;> rfl
  case jumpRelIf => unfold Machine.jumpRelIf; split <;> rfl
  case returnIf => unfold Machine.returnIf; split <;> rfl
  case callIf cc nn =>
    unfold Machine.callIf
    split
    · exact g.unwritten_push16 _
    · rfl
  case runPrefix => exact GameBoy.unwritten_runCb _ _
  all_goals rfl

/-- The host's inputs to the CHIP-8 machine, which no instruction writes (rules R47, R344): the keys and the stored image. -/
def Chip8.inputs (c : Chip8) : Vector Bool 16 × List Byte := (c.keys, c.image)

theorem Chip8.inputs_skipIf (c : Chip8) (test : Bool) : (c.skipIf test).inputs = c.inputs := by cases test <;> rfl

theorem Chip8.inputs_ch8Ret (c : Chip8) : (ch8Ret c).inputs = c.inputs := by unfold ch8Ret; split <;> rfl

theorem Chip8.inputs_ch8Call (nnn : Addr12) (c : Chip8) : (ch8Call nnn c).inputs = c.inputs := by
  unfold ch8Call; split <;> rfl

/-- A loop of operations that leave the inputs alone leaves them alone. -/
theorem Chip8.inputs_foldl {body : Chip8 → Nat → Chip8} (hb : ∀ c k, (body c k).inputs = c.inputs) (ks : List Nat) (c : Chip8) :
    (ks.foldl body c).inputs = c.inputs :=
  List.foldlRecOn ks body (motive := fun d => d.inputs = c.inputs) rfl fun d hd k _ => (hb d k).trans hd

theorem Chip8.inputs_drawRow (x0 y0 : Nat) (c : Chip8) (row : Nat) : (drawRow x0 y0 c row).inputs = c.inputs :=
  (congrArg Chip8.inputs (drawRow_keeps x0 y0 c row) :)

theorem Chip8Operation.inputs_eq {f : Chip8 → Chip8} (h : Chip8Operation f) (c : Chip8) : (f c).inputs = c.inputs := by
  cases h
  case ret => exact c.inputs_ch8Ret
  case call => exact c.inputs_ch8Call _
  case skipIf => exact c.inputs_skipIf _
  case drw => exact Chip8.inputs_foldl (Chip8.inputs_drawRow _ _) _ _
  case storeRegs => exact Chip8.inputs_foldl (body := storeReg) (fun _ _ => rfl) _ c
  case loadRegs => exact Chip8.inputs_foldl (body := loadReg) (fun _ _ => rfl) _ c
  all_goals rfl

end Sys2Proof.Machine
end

section
/-! SUPPORT. Proofs: the two machines share nothing, the costs of the CPU step, and what the host alone changes (O18, O19, O20). -/

namespace Sys2Proof.Machine

/-! ## What an instruction of either machine can do -/

theorem onNext_eq_next {r : Result} {f : State → State} {t : State} (h : onNext r f = .next t) : ∃ u, r = .next u ∧ t = f u := by
  cases r with
  | next u => exact ⟨u, rfl, (Host.Outcome.next.inj h).symm⟩
  | fault => cases h
  | refused => cases h

/-- Under the policy `skip` an undefined byte idles, under `fault` it gives no next state (rule R286). -/
theorem undefined_eq_next {op : Byte} {s t : State} (h : undefined op s = .next t) : t = { s with gb := idle4 s.gb } := by
  unfold undefined at h
  split at h
  · exact (Host.Outcome.next.inj h).symm
  · cases h

/-- A Game Boy instruction that completes has run a shared operation on the Game Boy machine and done nothing else. -/
theorem Meaning.gameBoy_next {m : State → Result} (h : Meaning .gameBoy m) {s t : State} (ht : m s = .next t) :
    ∃ f, GameBoyOperation f ∧ t = { s with gb := f s.gb } := by
  cases h with
  | gameBoy hf => exact ⟨_, hf, (Host.Outcome.next.inj ht).symm⟩
  | undefinedByte op => exact ⟨_, .idle4, undefined_eq_next ht⟩

/-- A CHIP-8 instruction always completes and does nothing but run an operation on the CHIP-8 machine. -/
theorem Meaning.chip8_next {m : State → Result} (h : Meaning .chip8 m) (s : State) :
    ∃ f, Chip8Operation f ∧ m s = .next { s with ch8 := f s.ch8 } := by
  cases h with
  | chip8 hf => exact ⟨_, hf, rfl⟩

/-- A Game Boy instruction does not see the CHIP-8 machine (rule R3). -/
theorem Meaning.gameBoy_comm {m : State → Result} (h : Meaning .gameBoy m) (s : State) (c : Chip8) :
    m { s with ch8 := c } = onNext (m s) fun t => { t with ch8 := c } := by
  cases h with
  | gameBoy => rfl
  | undefinedByte op =>
    unfold undefined
    simp only
    split <;> rfl

/-- A CHIP-8 instruction does not see the Game Boy machine (rule R3). -/
theorem Meaning.chip8_comm {m : State → Result} (h : Meaning .chip8 m) (s : State) (g : GameBoy) :
    m { s with gb := g } = onNext (m s) fun t => { t with gb := g } := by
  cases h with
  | chip8 => rfl

/-- Settles O18: by its meaning, an instruction is a function of its own machine alone. -/
theorem machinesShareNothing : Obligations.MachinesShareNothing := by
  intro i s
  have hm := exec_meaning i
  refine ⟨fun hi => ?_, fun hi => ?_⟩ <;> rw [hi] at hm
  · refine ⟨fun t ht => ?_, hm.gameBoy_comm s⟩
    obtain ⟨f, -, rfl⟩ := hm.gameBoy_next ht
    rfl
  · refine ⟨fun t ht => ?_, hm.chip8_comm s⟩
    obtain ⟨f, -, hf⟩ := hm.chip8_next s
    cases ht.symm.trans hf
    rfl

/-! ## The CPU step -/

/-- A Game Boy instruction that completes costs one of the six. -/
theorem exec_cycles_mem {i : Instr} (hi : i.machine = .gameBoy) {s t : State} (ht : exec i s = .next t) :
    t.gb.cycles ∈ stepCosts := by
  have hm := exec_meaning i
  rw [hi] at hm
  obtain ⟨f, hf, rfl⟩ := hm.gameBoy_next ht
  exact hf.cycles_mem s.gb

/-- Step 2 of rule R401, when it completes: an interrupt entry, or the next instruction. -/
theorem interruptOrInstr_cases {s t : State} (h : interruptOrInstr s = .next t) :
    t = { s with gb := s.gb.interruptEntry } ∨ runInstr s = .next t := by
  unfold interruptOrInstr at h
  split at h
  · exact .inl (Host.Outcome.next.inj h).symm
  · exact .inr h

/-- Everything a CPU step that completes can be (rule R401): a halted wait, an interrupt entry, or an instruction, of a CPU that is
awake or has just been woken. -/
theorem cpuStep_cases {s t : State} (h : cpuStep s = .next t) :
    t = { s with gb := haltedWait s.gb } ∨
    t = { s with gb := (wake s.gb).interruptEntry } ∨
    runInstr { s with gb := wake s.gb } = .next t := by
  unfold cpuStep at h
  split at h
  · split at h
    · exact .inr (interruptOrInstr_cases h)
    · exact .inl (Host.Outcome.next.inj h).symm
  · next hw =>
    have hs : { s with gb := wake s.gb } = s := by
      unfold wake
      rw [← Bool.eq_false_iff.mpr hw]
    rw [← hs] at h
    exact .inr (interruptOrInstr_cases h)

/-- Settles O19: each operation costs one of the six, and so do the halted wait (4) and interrupt entry (20). -/
theorem cyclesAreOneOfSix : Obligations.CyclesAreOneOfSix := by
  refine ⟨fun i s t hi ht => exec_cycles_mem hi ht, fun s t ht => ?_⟩
  rcases cpuStep_cases ht with rfl | rfl | hrun
  · exact List.mem_of_elem_eq_true rfl
  · exact List.mem_of_elem_eq_true rfl
  · exact exec_cycles_mem (fetchInstr_machine _) hrun

/-! ## What the host alone changes -/

/-- The host's inputs and the scheduler's flags, the events to come, and the parameters. -/
def State.hostSide (s : State) :
    (Memory Byte × Nat × Byte) × (Vector Bool 16 × List Byte) × (Bool × Bool × MachineId) × List HostEvent × Config :=
  (s.gb.unwritten.1, s.ch8.inputs, (s.running, s.paused, s.active), s.hostCalls, s.cfg)

theorem GameBoy.unwritten_interruptEntry (g : GameBoy) : g.interruptEntry.unwritten = g.unwritten :=
  (GameBoy.unwritten_push16 _ _).trans (GameBoy.unwritten_memWrite _ _ _)

/-- The host's side, field by field. -/
theorem State.hostSide_fields {s t : State} (h : t.hostSide = s.hostSide) :
    t.cfg = s.cfg ∧ t.hostCalls = s.hostCalls ∧
      t.gb.rom = s.gb.rom ∧ t.gb.romLen = s.gb.romLen ∧ t.gb.buttons = s.gb.buttons ∧ t.ch8.keys = s.ch8.keys ∧
      t.ch8.image = s.ch8.image ∧ t.running = s.running ∧ t.paused = s.paused ∧ t.active = s.active := by
  simp only [State.hostSide, GameBoy.unwritten, Chip8.inputs, Prod.mk.injEq] at h
  obtain ⟨⟨hrom, hlen, hbuttons⟩, ⟨hkeys, himage⟩, ⟨hrunning, hpaused, hactive⟩, hcalls, hcfg⟩ := h
  exact ⟨hcfg, hcalls, hrom, hlen, hbuttons, hkeys, himage, hrunning, hpaused, hactive⟩

/-- No instruction changes the host's side. -/
theorem exec_hostSide {i : Instr} {s t : State} (ht : exec i s = .next t) : t.hostSide = s.hostSide := by
  have hm := exec_meaning i
  match hi : i.machine with
  | .gameBoy =>
    rw [hi] at hm
    obtain ⟨f, hf, rfl⟩ := hm.gameBoy_next ht
    simp only [State.hostSide, hf.unwritten_eq]
  | .chip8 =>
    rw [hi] at hm
    obtain ⟨f, hf, he⟩ := hm.chip8_next s
    cases ht.symm.trans he
    simp only [State.hostSide, hf.inputs_eq]

theorem cpuStep_hostSide {s t : State} (ht : cpuStep s = .next t) : t.hostSide = s.hostSide := by
  rcases cpuStep_cases ht with rfl | rfl | hrun
  · rfl
  · simp only [State.hostSide, GameBoy.unwritten_interruptEntry]
    rfl
  · exact (exec_hostSide hrun :)

theorem GameBoy.inputs_lineLoop (turns : Nat) (g : GameBoy) : (g.lineLoop turns).unwritten.1 = g.unwritten.1 := by
  induction turns generalizing g with
  | zero => rfl
  | succ k ih =>
    unfold GameBoy.lineLoop
    split
    · exact (ih _).trans (GameBoy.lineEnd_keeps (·.unwritten.1) (fun _ _ _ _ _ => rfl) g)
    · rfl

/-- The PPU changes none of the Game Boy machine's inputs. -/
theorem GameBoy.inputs_ppuAdvance (n : Nat) (g : GameBoy) : (g.ppuAdvance n).unwritten.1 = g.unwritten.1 := by
  unfold GameBoy.ppuAdvance
  split
  · exact GameBoy.inputs_lineLoop _ _
  · rfl

theorem gbTurnStart_hostSide (s : State) : (gbTurnStart s).hostSide = s.hostSide := by
  unfold gbTurnStart
  split <;> rfl

theorem gbTurnEnd_hostSide (s : State) : (gbTurnEnd s).hostSide = s.hostSide := by
  have hp : State.hostSide { s with gb := advancePpu s.gb } = s.hostSide := by
    unfold State.hostSide advancePpu
    rw [← GameBoy.inputs_ppuAdvance s.gb.cycles s.gb]
    rfl
  unfold gbTurnEnd gbTickStep
  split <;> exact hp

theorem gbTurn_hostSide {s t : State} (ht : gbTurn s = .next t) : t.hostSide = s.hostSide := by
  unfold gbTurn at ht
  split at ht
  · cases ht; rfl
  · split at ht
    · cases ht; rfl
    · obtain ⟨u, hu, rfl⟩ := onNext_eq_next ht
      rw [gbTurnEnd_hostSide, cpuStep_hostSide hu, gbTurnStart_hostSide]

theorem ch8Step_hostSide {s t : State} (ht : ch8Step s = .next t) : t.hostSide = s.hostSide := by
  unfold ch8Step at ht
  split at ht
  · cases ht; rfl
  · split at ht
    · exact (exec_hostSide ht :)
    · cases ht; rfl

theorem ch8TurnStart_hostSide (s : State) : (ch8TurnStart s).hostSide = s.hostSide := by
  unfold ch8TurnStart
  split <;> rfl

theorem ch8TickStep_hostSide (s : State) : (ch8TickStep s).hostSide = s.hostSide := by
  unfold ch8TickStep
  split <;> rfl

theorem ch8Turn_hostSide {s t : State} (ht : ch8Turn s = .next t) : t.hostSide = s.hostSide := by
  unfold ch8Turn at ht
  split at ht
  · cases ht; rfl
  · split at ht
    · obtain ⟨u, hu, rfl⟩ := onNext_eq_next ht
      rw [ch8TickStep_hostSide, ch8Step_hostSide hu, ch8TurnStart_hostSide]
    · cases ht
      exact ch8TurnStart_hostSide s

/-- A turn of either machine leaves the host's side alone. -/
theorem machineTurn_hostSide {s t : State} (ht : machineTurn s = .next t) : t.hostSide = s.hostSide := by
  unfold machineTurn at ht
  split at ht
  · exact gbTurn_hostSide ht
  · exact ch8Turn_hostSide ht

/-- A host call changes neither the parameters nor the events to come. -/
theorem State.hostApply_cfg_hostCalls (call : HostCall) (s : State) :
    (State.hostApply call s).cfg = s.cfg ∧ (State.hostApply call s).hostCalls = s.hostCalls := by
  unfold State.hostApply
  split
  case h_1 | h_2 | h_4 => split <;> exact ⟨rfl, rfl⟩
  all_goals exact ⟨rfl, rfl⟩

/-- Settles O20: a turn of a machine leaves the host's side alone, and a host call takes the first event and keeps the parameters. -/
theorem inputsComeOnlyByHostCalls : Obligations.InputsComeOnlyByHostCalls := by
  intro s t ht
  rcases schedulerTurn_cases s with ⟨c, rest, hn, hq, he⟩ | ⟨rest, hn, hq, he⟩ | ⟨hb, he⟩
  · cases he.symm.trans ht
    obtain ⟨hcfg, hcalls⟩ := State.hostApply_cfg_hostCalls c { s with hostCalls := rest }
    refine ⟨hcfg, ?_, fun h => ?_⟩
    · rw [hcalls, if_pos hn, hq]
      rfl
    · exact (h.elim (· hn) (· c rest hq)).elim
  · obtain ⟨hcfg, hcalls, hinputs⟩ := State.hostSide_fields (machineTurn_hostSide (he.symm.trans ht))
    refine ⟨hcfg, ?_, fun _ => hinputs⟩
    rw [hcalls, if_pos hn, hq]
    rfl
  · obtain ⟨hcfg, hcalls, hinputs⟩ := State.hostSide_fields (machineTurn_hostSide (he.symm.trans ht))
    refine ⟨hcfg, ?_, fun _ => hinputs⟩
    rw [hcalls]
    split
    · next hn => rw [hb.resolve_left (· hn)]; rfl
    · rfl

end Sys2Proof.Machine
end

section
/-! SUPPORT. Proofs: which reads a byte write and a push leave as they were, and the stack instructions (O38). -/

namespace Sys2Proof.Machine

/-! ## The frame of a byte write -/

/-- Whether a read at an address shows a cell of `mem`: the ROM ranges and the unusable range show none (rule R61). -/
def showsCell (b : Word) : Prop :=
  regionOf b ≠ .ramGate ∧ regionOf b ≠ .bankSelect ∧ regionOf b ≠ .romWindow ∧ regionOf b ≠ .unusable

/-- A read at one address depends on the inputs, the draw counter, and the latch or the cell behind that address. -/
theorem GameBoy.memRead_congr_at {g g' : GameBoy} {b : Word} (hi : g'.unwritten = g.unwritten) (he : g'.epoch = g.epoch)
    (hbank : regionOf b = .romWindow → g'.romBank = g.romBank) (hgate : regionOf b = .eram → g'.ramEnabled = g.ramEnabled)
    (hcell : showsCell b → g'.cell (storageAddr b) = g.cell (storageAddr b)) (slot : ReadSlot) :
    g'.memRead slot b = g.memRead slot b := by
  simp only [GameBoy.unwritten, Prod.mk.injEq] at hi
  obtain ⟨⟨hrom, hlen, hbuttons⟩, -⟩ := hi
  have hbyte : ∀ k, g'.romByte slot k = g.romByte slot k := fun k => by unfold GameBoy.romByte; rw [hrom, hlen, he]
  have hb := regionOf_bounds b
  unfold showsCell at hcell
  unfold storageAddr at hcell
  unfold GameBoy.memRead storageAddr
  cases hr : regionOf b <;> simp only [hr, regionBounds, ne_eq, reduceCtorEq, not_false_eq_true, and_self, forall_const] at *
  case ramGate | bankSelect => exact hbyte _
  case romWindow => rw [hbank, hbyte]
  case eram => rw [hgate, hcell]
  case joypad =>
    rw [hb] at hcell
    unfold GameBoy.joypad
    rw [hcell, hbuttons]
  all_goals exact hcell

/-- The cell behind the echo range lies in `wram`, and any other at its own address (rule R71). -/
theorem storageAddr_cases (b : Word) :
    (storageAddr b + 0x2000 = b.toNat ∧ 0xC000 ≤ storageAddr b ∧ storageAddr b < 0xDE00) ∨ storageAddr b = b.toNat := by
  by_cases hr : regionOf b = .echo
  · have hb := regionOf_eq_iff.mp hr
    simp only [regionBounds] at hb
    simp only [storageAddr, hr]
    omega
  · exact .inr (storageAddr_eq hr)

/-- The cells that reads show lie above the ROM ranges and outside the unusable range. -/
theorem storageAddr_bounds {b : Word} (h : showsCell b) :
    0x8000 ≤ storageAddr b ∧ (storageAddr b < 0xFEA0 ∨ 0xFF00 ≤ storageAddr b) := by
  obtain ⟨hgate, hbank, hwindow, hunusable⟩ := h
  simp only [ne_eq, regionOf_eq_iff, regionBounds] at hgate hbank hwindow hunusable
  have hc := storageAddr_cases b
  omega

/-- Where a write at `a` may not touch a read at `b`, the cell behind `b` is not the one that `a` stores, nor one that a DMA copy
writes. -/
theorem storageAddr_of_untouched {a b : Word} (h : mayTouch a b = false) (hb : showsCell b) :
    storageAddr b ≠ storageAddr a ∧ (regionOf a = .dma → storageAddr b < 0xFE00 ∨ 0xFEA0 ≤ storageAddr b) := by
  have hs := storageAddr_bounds hb
  have hc := storageAddr_cases b
  have ha := regionOf_bounds a
  have hsa : regionOf a ≠ .echo → storageAddr a = a.toNat := storageAddr_eq
  unfold mayTouch at h
  cases hr : regionOf a <;>
    simp only [hr, regionBounds, ne_eq, reduceCtorEq, not_false_eq_true, forall_const, false_implies, and_true] at h ha hsa ⊢
  case ramGate | bankSelect | romWindow | unusable => omega
  case joypad =>
    have hne : b.toNat ≠ 0xFF00 := fun e => by simp [BitVec.eq_of_toNat_eq (y := 0xFF00#16) e] at h
    omega
  case dma =>
    obtain ⟨hne, hoam⟩ := Bool.or_eq_false_iff.mp h
    have hne : b.toNat ≠ 0xFF46 := fun e => by simp [BitVec.eq_of_toNat_eq (y := 0xFF46#16) e] at hne
    have hoam : ¬ regionBounds .oam b.toNat := regionOf_eq_iff.not.mp (by simpa using hoam)
    simp only [regionBounds] at hoam
    omega
  all_goals exact of_decide_eq_false h

/-- A read at an address that a byte write may not touch gives what it gave before (rules R61, R62). -/
theorem GameBoy.memRead_memWrite_of_untouched {g : GameBoy} (hw : Memory.wf busInit g.mem = true) {a b : Word}
    (h : mayTouch a b = false) (v : Byte) (slot : ReadSlot) : (g.memWrite a v).memRead slot b = g.memRead slot b := by
  refine GameBoy.memRead_congr_at (g.unwritten_memWrite a v) (g.memWrite_epoch a v) (fun hb => ?_) (fun hb => ?_)
    (fun hb => ?_) slot
  · refine GameBoy.memWrite_romBank fun ha => ?_
    simp [mayTouch, ha, hb] at h
  · refine GameBoy.memWrite_ramEnabled fun ha => ?_
    simp [mayTouch, ha, hb] at h
  · obtain ⟨hne, hdma⟩ := storageAddr_of_untouched h hb
    exact GameBoy.cell_memWrite_other hw a v hne hdma

/-- A push changes no read but those that its two bytes, at `SP - 1` and `SP - 2`, may touch (rule R166). -/
theorem GameBoy.memRead_push16_of_untouched {g : GameBoy} (hw : Memory.wf busInit g.mem = true) {b : Word}
    (h : mayTouchTwo (g.sp - 2) b = false) (v : Word) (slot : ReadSlot) : (g.push16 v).memRead slot b = g.memRead slot b := by
  obtain ⟨hlow, hhigh⟩ := Bool.or_eq_false_iff.mp h
  have hsp : g.sp - 2 + 1 = g.sp - 1 := by bv_omega
  rw [hsp] at hhigh
  unfold GameBoy.push16
  refine (GameBoy.memRead_memWrite_of_untouched ?_ hlow _ slot).trans ?_
  · exact GameBoy.wf_memWrite (g := { g with sp := g.sp - 1 }) hw _ _
  · exact GameBoy.memRead_memWrite_of_untouched (g := { g with sp := g.sp - 1 }) hw hhigh _ slot

/-! ## Push and pop -/

theorem exec_pushRR (p : R16Stk) : exec (Instr.pushRR p) = gbNext (pushPair p) := by cases p <;> rfl

theorem exec_popRR (p : R16Stk) : exec (Instr.popRR p) = gbNext (popPair p) := by cases p <;> rfl

/-- A pop reads the stack and writes none of it. -/
theorem memRead_popPair (p : R16Stk) (g : GameBoy) (slot : ReadSlot) (b : Word) :
    (popPair p g).memRead slot b = g.memRead slot b := by
  apply GameBoy.memRead_congr <;> simp [popPair]

/-- Settles O38: the two instructions are `pushPair` and `popPair`, and a push touches only its two bytes. -/
theorem pushAndPop : Obligations.PushAndPop := by
  intro s p
  refine ⟨⟨?_, ?_⟩, ⟨?_, ?_⟩⟩
  · rw [exec_pushRR]; rfl
  · intro hw slot addr h
    exact GameBoy.memRead_push16_of_untouched hw h _ slot
  · rw [exec_popRR]; rfl
  · exact memRead_popPair p s.gb

end Sys2Proof.Machine
end

section
/-! SUPPORT. Proofs: every step keeps the invariant of the whole machine (O16), and the state after reset meets it (O15). -/

namespace Sys2Proof.Machine

/-! ## What an instruction can do to the state -/

/-- An instruction that completes has run an operation of its own machine and done nothing else. -/
theorem exec_next_cases {i : Instr} {s t : State} (ht : exec i s = .next t) :
    (∃ f, GameBoyOperation f ∧ t = { s with gb := f s.gb }) ∨ (∃ f, Chip8Operation f ∧ t = { s with ch8 := f s.ch8 }) := by
  have hm := exec_meaning i
  cases hi : i.machine with
  | gameBoy =>
    rw [hi] at hm
    exact .inl (hm.gameBoy_next ht)
  | chip8 =>
    rw [hi] at hm
    obtain ⟨f, hf, he⟩ := hm.chip8_next s
    exact .inr ⟨f, hf, Host.Outcome.next.inj (ht.symm.trans he)⟩

/-! ## The bus memory and the bank latch -/

/-- The part of the Game Boy invariant that byte writes can touch: the bus memory and the bank-select latch. -/
structure BusInv (mem : Memory Byte) (bank : BitVec 5) : Prop where
  canonical : Memory.wf busInit mem = true
  placed : mem.all (fun cell => storedAt cell.1) = true
  joypadSelector : Memory.read busInit mem 0xFF00 &&& 0xCF = 0
  bankNonzero : bank ≠ 0

theorem GameBoy.Inv.bus {g : GameBoy} (h : g.Inv) : BusInv g.mem g.romBank :=
  ⟨h.memCanonical, h.memPlaced, h.joypadSelector, h.bankNonzero⟩

/-- The rest of the invariant speaks of what no instruction writes. -/
theorem GameBoy.Inv.of_bus {g g' : GameBoy} (h : g.Inv) (hu : g'.unwritten = g.unwritten) (hb : BusInv g'.mem g'.romBank) :
    g'.Inv := by
  simp only [GameBoy.unwritten, Prod.mk.injEq] at hu
  obtain ⟨⟨hrom, hlen, -⟩, hcounter, -, hframebuffer⟩ := hu
  exact {
    memCanonical := hb.canonical
    memPlaced := hb.placed
    joypadSelector := hb.joypadSelector
    romCanonical := hrom ▸ h.romCanonical
    romPlaced := hrom ▸ hlen ▸ h.romPlaced
    romSize := hlen ▸ h.romSize
    bankNonzero := hb.bankNonzero
    counterBounded := hcounter ▸ h.counterBounded
    framebufferCanonical := hframebuffer ▸ h.framebufferCanonical
    framebufferPlaced := hframebuffer ▸ h.framebufferPlaced }

/-- A stored byte at an address that exists keeps the invariant, if it is not the joypad port or keeps its selector bits alone. -/
theorem BusInv.write {mem : Memory Byte} {bank : BitVec 5} (h : BusInv mem bank) {k : Nat} {v : Byte} (hk : storedAt k = true)
    (hj : k = 0xFF00 → v &&& 0xCF = 0) : BusInv (Memory.write busInit mem k v) bank where
  canonical := Memory.wf_write h.canonical
  placed := Memory.all_write h.placed hk
  joypadSelector := by
    rw [Memory.read_write h.canonical]
    split
    · next e => exact hj e.symm
    · exact h.joypadSelector
  bankNonzero := h.bankNonzero

/-- A cell that an access reaches through the memory map exists. -/
theorem storedAt_storageAddr {a : Word} (h : showsCell a) : storedAt (storageAddr a) = true := by
  have hlt := a.isLt
  have hb := storageAddr_bounds h
  simp only [storedAt, Bool.or_eq_true, Bool.and_eq_true, decide_eq_true_eq]
  by_cases hr : regionOf a = .echo
  · have he := regionOf_eq_iff.mp hr
    have hs : storageAddr a = a.toNat - 0x2000 := by simp only [storageAddr, hr]
    simp only [regionBounds] at he
    omega
  · have he := regionOf_eq_iff.not.mp hr
    have hs := storageAddr_eq hr
    simp only [regionBounds] at he
    omega

theorem storageAddr_ne_joypad {a : Word} (h : regionOf a ≠ .joypad) : storageAddr a ≠ 0xFF00 := by
  have hb : ¬ regionBounds .joypad a.toNat := regionOf_eq_iff.not.mp h
  have hc := storageAddr_cases a
  simp only [regionBounds] at hb
  omega

/-- The bank-select latch is never 0 (rule R67). -/
theorem bankOf_ne_zero (v : Byte) : bankOf v ≠ 0 := by
  unfold bankOf
  split
  · decide
  · assumption

/-- The OAM copy stores in `oam` alone. -/
theorem BusInv.oamDma {g : GameBoy} (h : BusInv g.mem g.romBank) (v : Byte) :
    BusInv (g.oamDma v).mem (g.oamDma v).romBank :=
  List.foldlRecOn (motive := fun d : GameBoy => BusInv d.mem d.romBank) _ _ h fun d hd k hk => by
    have hk := List.mem_range.mp hk
    refine BusInv.write hd ?_ (fun e => by omega)
    simp only [storedAt, Bool.or_eq_true, Bool.and_eq_true, decide_eq_true_eq]
    omega

/-- A byte write keeps the invariant (rule R62). -/
theorem BusInv.memWrite {g : GameBoy} (h : BusInv g.mem g.romBank) (a : Word) (v : Byte) :
    BusInv (g.memWrite a v).mem (g.memWrite a v).romBank := by
  have hstore (hs : showsCell a) (hj : regionOf a ≠ .joypad) :
      BusInv (g.setCell (storageAddr a) v).mem (g.setCell (storageAddr a) v).romBank :=
    h.write (storedAt_storageAddr hs) fun e => absurd e (storageAddr_ne_joypad hj)
  unfold GameBoy.memWrite
  cases hr : regionOf a
  case ramGate | romWindow | unusable => exact h
  case bankSelect => exact { h with bankNonzero := bankOf_ne_zero v }
  case eram =>
    rw [← storageAddr_eq (a := a) (by simp [hr])]
    simp only
    split
    · exact hstore (by simp [showsCell, hr]) (by simp [hr])
    · exact h
  case joypad =>
    refine BusInv.write h (by decide) fun _ => ?_
    rw [BitVec.and_assoc]
    exact BitVec.and_zero
  case dma => exact BusInv.oamDma (g := g.setCell 0xFF46 v) (BusInv.write h (by decide) fun e => absurd e (by decide)) v
  all_goals exact hstore (by simp [showsCell, hr]) (by simp [hr])

theorem BusInv.memWrite16 {g : GameBoy} (h : BusInv g.mem g.romBank) (a v : Word) :
    BusInv (g.memWrite16 a v).mem (g.memWrite16 a v).romBank :=
  (h.memWrite _ _).memWrite _ _

theorem BusInv.push16 {g : GameBoy} (h : BusInv g.mem g.romBank) (v : Word) :
    BusInv (g.push16 v).mem (g.push16 v).romBank :=
  BusInv.memWrite (g := { GameBoy.memWrite { g with sp := g.sp - 1 } (g.sp - 1) (highByte v) with sp := g.sp - 2 })
    (BusInv.memWrite (g := { g with sp := g.sp - 1 }) h _ _) _ _

theorem BusInv.put {g : GameBoy} (h : BusInv g.mem g.romBank) (x : Operand) (v : Byte) :
    BusInv (g.put x v).mem (g.put x v).romBank := by
  cases x with
  | reg r => simpa [GameBoy.put] using h
  | atHL => exact h.memWrite _ _

theorem BusInv.runCb {g : GameBoy} (h : BusInv g.mem g.romBank) (op2 : Byte) :
    BusInv (runCb op2 g).mem (runCb op2 g).romBank := by
  unfold Machine.runCb
  split
  case h_2 => exact h
  all_goals exact h.put _ _

/-- Every operation of the Game Boy machine keeps the invariant of the bus. -/
theorem GameBoyOperation.busInv {f : GameBoy → GameBoy} (hf : GameBoyOperation f) {g : GameBoy} (h : BusInv g.mem g.romBank) :
    BusInv (f g).mem (f g).romBank := by
  cases hf
  case ldRR | ldRN | ldRHL => simpa [Machine.ldRR, Machine.ldRN, Machine.ldRHL] using h
  case ldRRnn | incPair | decPair => simpa [Machine.ldRRnn, Machine.incPair, Machine.decPair] using h
  case popPair => simpa [Machine.popPair] using h
  case ldHLR | ldHLN | storeA | storeAStep => exact h.memWrite _ _
  case ldNnSp => exact h.memWrite16 _ _
  case pushPair | call | restart => exact h.push16 _
  case incOperand | decOperand | shiftOperand | bitReset | bitSet => exact h.put _ _
  case jumpIf => unfold Machine.jumpIf; split <;> exact h
  case jumpRelIf => unfold Machine.jumpRelIf; split <;> exact h
  case returnIf => unfold Machine.returnIf; split <;> exact h
  case callIf =>
    unfold Machine.callIf
    split
    · exact h.push16 _
    · exact h
  case runPrefix => exact BusInv.runCb (g := g.skipBytes 1) h _
  all_goals exact h

/-- Every operation of the Game Boy machine keeps its invariant. -/
theorem GameBoyOperation.inv {f : GameBoy → GameBoy} (hf : GameBoyOperation f) {g : GameBoy} (h : g.Inv) : (f g).Inv :=
  h.of_bus (hf.unwritten_eq g) (hf.busInv h.bus)

/-- Interrupt entry keeps the invariant (rule R405). -/
theorem GameBoy.Inv.interruptEntry {g : GameBoy} (h : g.Inv) : g.interruptEntry.Inv := by
  refine h.of_bus g.unwritten_interruptEntry ?_
  exact BusInv.push16 (g := GameBoy.memWrite { g with ime := false } 0xFF0F (g.ifReg &&& 0xFE))
    (BusInv.memWrite (g := { g with ime := false }) h.bus _ _) _

/-! ## The CHIP-8 machine -/

/-- A loop of operations that keep a part of the machine keeps it. -/
theorem Chip8.foldl_keeps {β : Type} (part : Chip8 → β) {body : Chip8 → Nat → Chip8}
    (hb : ∀ c k, part (body c k) = part c) (ks : List Nat) (c : Chip8) : part (ks.foldl body c) = part c :=
  List.foldlRecOn ks body (motive := fun d => part d = part c) rfl fun d hd k _ => (hb d k).trans hd

/-- The part of the CHIP-8 invariant that stores can touch: the memory. -/
def Chip8MemoryInv (mem : Memory Byte) : Prop := Memory.wf ch8Init mem = true ∧ Memory.below 4096 mem = true

theorem Chip8MemoryInv.store {c : Chip8} (h : Chip8MemoryInv c.memory) (a : Addr12) (v : Byte) :
    Chip8MemoryInv (c.store a v).memory :=
  ⟨Chip8.wf_store h.1 a v, Chip8.below_store h.2 a v⟩

/-- Only the two storing operations write memory, and only bytes that exist. -/
theorem Chip8Operation.memoryInv {f : Chip8 → Chip8} (hf : Chip8Operation f) {c : Chip8} (h : Chip8MemoryInv c.memory) :
    Chip8MemoryInv (f c).memory := by
  cases hf
  case ret => unfold ch8Ret; split <;> exact h
  case call => unfold ch8Call; split <;> exact h
  case skipIf => simpa using h
  case drw x y n =>
    have hrow (x0 y0 : Nat) (c : Chip8) (row : Nat) : (drawRow x0 y0 c row).memory = c.memory :=
      (congrArg Chip8.memory (drawRow_keeps x0 y0 c row) :)
    have hm : (ch8Drw x y n c).memory = c.memory := Chip8.foldl_keeps Chip8.memory (hrow _ _) _ _
    rwa [hm]
  case bcd => exact ((h.store _ _).store _ _).store _ _
  case storeRegs x =>
    exact List.foldlRecOn (motive := fun d : Chip8 => Chip8MemoryInv d.memory) _ storeReg h fun d hd k _ => hd.store _ _
  case loadRegs x =>
    have hm : (ch8LoadRegs x c).memory = c.memory := Chip8.foldl_keeps Chip8.memory (body := loadReg) (fun _ _ => rfl) _ _
    rwa [hm]
  all_goals exact h

/-- Every operation of the CHIP-8 machine keeps its invariant. -/
theorem Chip8Operation.inv {f : Chip8 → Chip8} (hf : Chip8Operation f) {c : Chip8} (h : c.Inv) : (f c).Inv := by
  obtain ⟨hw, hb⟩ := hf.memoryInv ⟨h.memoryCanonical, h.memoryPlaced⟩
  have himage : (f c).image = c.image := congrArg Prod.snd (hf.inputs_eq c)
  exact ⟨hw, hb, himage ▸ h.imageFits⟩

/-! ## The PPU -/

/-- The part of the Game Boy invariant that the PPU can touch, the counter apart: it passes one line's T-states within an advance. -/
structure VideoInv (g : GameBoy) : Prop where
  bus : BusInv g.mem g.romBank
  canonical : Memory.wf pixelInit g.framebuffer = true
  placed : Memory.below 23040 g.framebuffer = true

theorem VideoInv.setCell {g : GameBoy} (h : VideoInv g) {k : Nat} (v : Byte) (hk : storedAt k = true) (hj : k ≠ 0xFF00) :
    VideoInv (g.setCell k v) :=
  { h with bus := h.bus.write hk fun e => absurd e hj }

/-- A visible line lies inside the framebuffer (rule R418). -/
theorem VideoInv.renderScanline {g : GameBoy} (h : VideoInv g) {line : Nat} (hl : line < 144) :
    VideoInv (g.renderScanline line) := by
  unfold GameBoy.renderScanline
  refine List.foldlRecOn (motive := VideoInv) _ _ h fun d hd col hc => ?_
  have hc := List.mem_range.mp hc
  have hi : pixelIndex line col < 23040 := by unfold pixelIndex; omega
  exact ⟨hd.bus, Memory.wf_write hd.canonical, Memory.below_write hd.placed hi⟩

theorem VideoInv.requestVblank {g : GameBoy} (h : VideoInv g) : VideoInv g.requestVblank :=
  { h.setCell (k := 0xFF0F) _ (by decide) (by decide) with }

theorem VideoInv.lineEnd {g : GameBoy} (h : VideoInv g) : VideoInv g.lineEnd := by
  have h1 : VideoInv { g with scanlineCounter := g.scanlineCounter - Config.lineCycles } := ⟨h.bus, h.canonical, h.placed⟩
  have hly {g : GameBoy} (h : VideoInv g) (v : Byte) : VideoInv (g.setCell 0xFF44 v) := h.setCell v (by decide) (by decide)
  unfold GameBoy.lineEnd
  simp only
  split <;> split
  · exact (hly (h1.renderScanline ‹_›) _).requestVblank
  · exact (hly h1 _).requestVblank
  · exact hly (h1.renderScanline ‹_›) _
  · exact hly h1 _

theorem VideoInv.lineLoop (turns : Nat) {g : GameBoy} (h : VideoInv g) : VideoInv (g.lineLoop turns) := by
  induction turns generalizing g with
  | zero => exact h
  | succ k ih =>
    unfold GameBoy.lineLoop
    split
    · exact ih h.lineEnd
    · exact h

/-- An advance of the PPU keeps the invariant. -/
theorem GameBoy.Inv.ppuAdvance {g : GameBoy} (h : g.Inv) (n : Nat) : (g.ppuAdvance n).Inv := by
  have hv : VideoInv (g.ppuAdvance n) := by
    have hg : VideoInv g := ⟨h.bus, h.framebufferCanonical, h.framebufferPlaced⟩
    unfold GameBoy.ppuAdvance
    split
    · exact VideoInv.lineLoop _ { hg with }
    · exact hg
  have hi := g.inputs_ppuAdvance n
  simp only [GameBoy.unwritten, Prod.mk.injEq] at hi
  obtain ⟨hrom, hlen, -⟩ := hi
  exact {
    memCanonical := hv.bus.canonical
    memPlaced := hv.bus.placed
    joypadSelector := hv.bus.joypadSelector
    romCanonical := hrom ▸ h.romCanonical
    romPlaced := hrom ▸ hlen ▸ h.romPlaced
    romSize := hlen ▸ h.romSize
    bankNonzero := hv.bus.bankNonzero
    counterBounded := GameBoy.ppuAdvance_counter h.counterBounded n
    framebufferCanonical := hv.canonical
    framebufferPlaced := hv.placed }

/-! ## Reset and the host -/

theorem GameBoy.Inv.initial : GameBoy.initial.Inv := by
  constructor <;> decide

theorem Chip8.Inv.initial : Chip8.initial.Inv := by
  constructor <;> decide

theorem State.tickBounded_of_boundary {s : State} (h : s.tickSteps = 0) : s.tickBounded := by
  unfold State.tickBounded
  rw [h]
  split
  · decide
  · exact .inl rfl

/-- Settles O15: both machines start with empty stores, at a tick boundary. -/
theorem resetMeetsInvariant : Obligations.ResetMeetsInvariant :=
  ⟨GameBoy.Inv.initial, Chip8.Inv.initial, State.tickBounded_of_boundary rfl⟩

/-- A reset of a machine whose image is sound gives a sound machine. -/
theorem GameBoy.Inv.resetLoaded {g : GameBoy} (hw : Memory.wf romInit g.rom = true) (hb : Memory.below g.romLen g.rom = true)
    (hs : g.romLen = 0 ∨ 32768 ≤ g.romLen) : g.resetLoaded.Inv :=
  { GameBoy.Inv.initial with romCanonical := hw, romPlaced := hb, romSize := hs }

theorem Chip8.Inv.ofImage {bytes : List Byte} (h : bytes.length ≤ 3584) : (Chip8.ofImage bytes).Inv where
  memoryCanonical := Chip8.wf_ofImage bytes
  memoryPlaced := by
    have hb := Memory.below_ofBytes ch8Init bytes 0x200
    unfold Memory.below at hb ⊢
    rw [List.all_eq_true] at hb ⊢
    intro cell hc
    have := of_decide_eq_true (hb cell hc)
    exact decide_eq_true (by omega)
  imageFits := h

theorem Chip8.Inv.setKey {c : Chip8} (h : c.Inv) (index : Nibble) (pressed : Bool) : (c.setKey index pressed).Inv := by
  unfold Chip8.setKey
  simp only
  split <;> exact { h with }

/-- A host call, which comes at a tick boundary, keeps the invariant (rule R464). -/
theorem State.Inv.hostApply {s : State} (h : s.Inv) (hn : s.tickSteps = 0) (call : HostCall) : (State.hostApply call s).Inv := by
  have hgb {g : GameBoy} (hg : g.Inv) : (State.hostDone { s with gb := g }).Inv := ⟨hg, h.ch8, h.tick⟩
  have hch8 {c : Chip8} (hc : c.Inv) : (State.hostDone { s with ch8 := c }).Inv := ⟨h.gb, hc, h.tick⟩
  have hfail (e : HostError) : (s.hostFailed e).Inv := ⟨h.gb, h.ch8, h.tick⟩
  unfold State.hostApply
  split
  next bytes =>
    split
    · exact hfail _
    · obtain ⟨hw, hb⟩ := GameBoy.wf_loadImage bytes s.gb
      exact hgb (.resetLoaded hw hb (.inr (Nat.not_lt.mp ‹_›)))
  next bytes =>
    split
    · exact hfail _
    · exact hch8 { Chip8.Inv.ofImage (Nat.not_lt.mp ‹_›) with }
  next => exact hfail _
  next =>
    split
    · exact hfail _
    · exact hgb (.resetLoaded h.gb.romCanonical h.gb.romPlaced h.gb.romSize)
  next => exact hch8 { Chip8.Inv.ofImage h.ch8.imageFits with }
  next => exact ⟨h.gb, h.ch8, h.tick⟩
  next => exact ⟨h.gb, h.ch8, h.tick⟩
  next => exact ⟨h.gb, h.ch8, h.tick⟩
  next => exact hgb { h.gb with }
  next => exact hch8 (h.ch8.setKey _ _)
  next => exact ⟨h.gb, h.ch8, State.tickBounded_of_boundary hn⟩

/-! ## The turns -/

/-- An instruction keeps the invariant. -/
theorem State.Inv.exec {i : Instr} {s t : State} (h : s.Inv) (ht : Machine.exec i s = .next t) : t.Inv := by
  rcases exec_next_cases ht with ⟨f, hf, rfl⟩ | ⟨f, hf, rfl⟩
  · exact ⟨hf.inv h.gb, h.ch8, h.tick⟩
  · exact ⟨h.gb, hf.inv h.ch8, h.tick⟩

theorem State.Inv.cpuStep {s t : State} (h : s.Inv) (ht : Machine.cpuStep s = .next t) : t.Inv := by
  have hw : (wake s.gb).Inv := { h.gb with }
  rcases cpuStep_cases ht with rfl | rfl | hrun
  · exact ⟨{ h.gb with }, h.ch8, h.tick⟩
  · exact ⟨hw.interruptEntry, h.ch8, h.tick⟩
  · exact State.Inv.exec (s := { s with gb := (wake s.gb).skipBytes _ }) ⟨{ hw with }, h.ch8, h.tick⟩ hrun

/-- The loop test of the Game Boy tick keeps the tick inside its bound (rule R430). -/
theorem State.Inv.gbTurnEnd {s : State} (h : s.Inv) (ha : s.active = .gameBoy) : (Machine.gbTurnEnd s).Inv := by
  have hg : (advancePpu s.gb).Inv := { h.gb.ppuAdvance s.gb.cycles with }
  unfold Machine.gbTurnEnd gbTickStep
  split
  · exact ⟨hg, h.ch8, State.tickBounded_of_boundary rfl⟩
  · next hcap =>
    refine ⟨hg, h.ch8, ?_⟩
    unfold State.tickBounded
    simp only [ha]
    exact Nat.not_le.mp fun hle => hcap (.inr hle)

theorem State.Inv.gbTurn {s t : State} (h : s.Inv) (ha : s.active = .gameBoy) (ht : Machine.gbTurn s = .next t) : t.Inv := by
  have hstart : (gbTurnStart s).Inv := by
    unfold gbTurnStart
    split
    · exact ⟨{ h.gb with }, h.ch8, h.tick⟩
    · exact h
  unfold Machine.gbTurn at ht
  split at ht
  · cases ht; exact ⟨h.gb, h.ch8, h.tick⟩
  split at ht
  · cases ht; exact ⟨h.gb, h.ch8, h.tick⟩
  obtain ⟨u, hu, rfl⟩ := onNext_eq_next ht
  have hside := (cpuStep_hostSide hu).trans (gbTurnStart_hostSide s)
  obtain ⟨-, -, -, -, -, -, -, -, -, hactive⟩ := State.hostSide_fields hside
  exact (hstart.cpuStep hu).gbTurnEnd (hactive.trans ha)

theorem State.Inv.ch8Step {s t : State} (h : s.Inv) (ht : Machine.ch8Step s = .next t) : t.Inv := by
  have hadvance : State.Inv { s with ch8 := s.ch8.advance } := ⟨h.gb, { h.ch8 with }, h.tick⟩
  unfold Machine.ch8Step at ht
  split at ht
  · cases ht; exact h
  split at ht
  · exact hadvance.exec ht
  · cases ht; exact hadvance

theorem State.Inv.ch8TickEnd {s : State} (h : s.Inv) : (Machine.ch8TickEnd s).Inv :=
  ⟨h.gb, { h.ch8 with }, State.tickBounded_of_boundary rfl⟩

/-- The count of the batch keeps the tick inside its bound (rule R340). -/
theorem State.Inv.ch8TickStep {s : State} (h : s.Inv) (ha : s.active = .chip8) : (Machine.ch8TickStep s).Inv := by
  unfold Machine.ch8TickStep
  split
  · exact h.ch8TickEnd
  · next hbatch =>
    refine ⟨h.gb, h.ch8, ?_⟩
    unfold State.tickBounded
    simp only [ha]
    exact .inr (Nat.not_le.mp hbatch)

theorem State.Inv.ch8Turn {s t : State} (h : s.Inv) (ha : s.active = .chip8) (ht : Machine.ch8Turn s = .next t) : t.Inv := by
  have hstart : (ch8TurnStart s).Inv := by
    unfold ch8TurnStart
    split
    · exact ⟨h.gb, h.ch8, h.tick⟩
    · exact h
  unfold Machine.ch8Turn at ht
  split at ht
  · cases ht; exact ⟨h.gb, h.ch8, h.tick⟩
  split at ht
  · obtain ⟨u, hu, rfl⟩ := onNext_eq_next ht
    have hside := (ch8Step_hostSide hu).trans (ch8TurnStart_hostSide s)
    obtain ⟨-, -, -, -, -, -, -, -, -, hactive⟩ := State.hostSide_fields hside
    exact (hstart.ch8Step hu).ch8TickStep (hactive.trans ha)
  · cases ht; exact hstart.ch8TickEnd

/-- A turn of either machine keeps the invariant. -/
theorem State.Inv.machineTurn {s t : State} (h : s.Inv) (ht : Machine.machineTurn s = .next t) : t.Inv := by
  unfold Machine.machineTurn at ht
  split at ht
  · exact h.gbTurn ‹_› ht
  · exact h.ch8Turn ‹_› ht

/-- Settles O16: a host call and a turn of either machine keep the invariant. -/
theorem stepKeepsInvariant : Obligations.StepKeepsInvariant := by
  intro s t h ht
  have hrest (rest : List HostEvent) : State.Inv { s with hostCalls := rest } := ⟨h.gb, h.ch8, h.tick⟩
  rcases schedulerTurn_cases s with ⟨c, rest, hn, -, he⟩ | ⟨rest, -, -, he⟩ | ⟨-, he⟩
  · cases he.symm.trans ht
    exact (hrest rest).hostApply hn c
  · exact (hrest rest).machineTurn (he.symm.trans ht)
  · exact h.machineTurn (he.symm.trans ht)

end Sys2Proof.Machine
end

section
/-! SUPPORT. Proofs: without interrupt vectoring no step reads `ime` (O11). -/

namespace Sys2Proof.Machine

/-! ## Accesses do not see `ime` -/

/-- The machine with another value of `ime`. -/
def GameBoy.withIme (b : Bool) (g : GameBoy) : GameBoy := { g with ime := b }

section
variable (b : Bool) (g : GameBoy)

@[simp] theorem GameBoy.memWrite_withIme (a : Word) (v : Byte) : (g.withIme b).memWrite a v = (g.memWrite a v).withIme b :=
  GameBoy.memWrite_comm (GameBoy.withIme b) (fun _ _ _ _ => rfl) (fun _ _ _ => rfl) (fun _ => rfl) (fun _ => rfl)
    (fun _ => rfl) g a v

@[simp] theorem GameBoy.memWrite16_withIme (a v : Word) : (g.withIme b).memWrite16 a v = (g.memWrite16 a v).withIme b := by
  simp [GameBoy.memWrite16]

@[simp] theorem GameBoy.push16_withIme (v : Word) : (g.withIme b).push16 v = (g.push16 v).withIme b := by
  have hsp (g : GameBoy) (p : Word) : { g.withIme b with sp := p } = GameBoy.withIme b { g with sp := p } := rfl
  unfold GameBoy.push16
  simp only [hsp, GameBoy.memWrite_withIme]
  rfl

@[simp] theorem GameBoy.setR8_withIme (r : R8) (v : Byte) : (g.withIme b).setR8 r v = (g.setR8 r v).withIme b := by
  cases r <;> rfl
@[simp] theorem GameBoy.setR16_withIme (p : R16) (v : Word) : (g.withIme b).setR16 p v = (g.setR16 p v).withIme b := by
  cases p <;> rfl
@[simp] theorem GameBoy.setR16stk_withIme (p : R16Stk) (v : Word) :
    (g.withIme b).setR16stk p v = (g.setR16stk p v).withIme b := by
  cases p <;> rfl
@[simp] theorem GameBoy.cond_withIme (cc : Cond) : (g.withIme b).cond cc = g.cond cc := by cases cc <;> rfl
@[simp] theorem GameBoy.put_withIme (x : Operand) (v : Byte) : (g.withIme b).put x v = (g.put x v).withIme b := by
  cases x with
  | reg r => exact g.setR8_withIme b r v
  | atHL => exact g.memWrite_withIme b g.hl v

end

/-! ## What does not read `ime` -/

/-- An operation that does not read `ime`: from another value of it the result differs in `ime` at most. -/
def ignoresIme (f : GameBoy → GameBoy) : Prop := ∀ (g : GameBoy) (b : Bool), ∃ b', f (g.withIme b) = (f g).withIme b'

@[simp] theorem ignoresIme_ldRR (dst src : R8) : ignoresIme (ldRR dst src) := fun g b =>
  ⟨b, congrArg (GameBoy.spend 4) (g.setR8_withIme b _ _)⟩
@[simp] theorem ignoresIme_ldRN (dst : R8) (n : Byte) : ignoresIme (ldRN dst n) := fun g b =>
  ⟨b, congrArg (GameBoy.spend 8) (g.setR8_withIme b _ _)⟩
@[simp] theorem ignoresIme_ldRHL (dst : R8) : ignoresIme (ldRHL dst) := fun g b =>
  ⟨b, congrArg (GameBoy.spend 8) (g.setR8_withIme b _ _)⟩
@[simp] theorem ignoresIme_ldHLR (src : R8) : ignoresIme (ldHLR src) := fun g b =>
  ⟨b, congrArg (GameBoy.spend 8) (g.memWrite_withIme b _ _)⟩
@[simp] theorem ignoresIme_ldHLN (n : Byte) : ignoresIme (ldHLN n) := fun g b =>
  ⟨b, congrArg (GameBoy.spend 12) (g.memWrite_withIme b _ _)⟩
/-- A store of `A` at an address that is not taken from `ime`. -/
theorem ignoresIme_storeA (addr : GameBoy → Word) (h : ∀ g b, addr (GameBoy.withIme b g) = addr g) (cost : Nat) :
    ignoresIme fun g => storeA (addr g) cost g := fun g b => by
  refine ⟨b, ?_⟩
  simp only [h]
  exact congrArg (GameBoy.spend cost) (g.memWrite_withIme b _ _)
@[simp] theorem ignoresIme_loadAStep (delta : Word) : ignoresIme (loadAStep delta) := fun _ b => ⟨b, rfl⟩
@[simp] theorem ignoresIme_storeAStep (delta : Word) : ignoresIme (storeAStep delta) := fun g b =>
  ⟨b, congrArg (fun g' : GameBoy => (g'.setHl _).spend 8) (g.memWrite_withIme b _ _)⟩
@[simp] theorem ignoresIme_ldRRnn (p : R16) (nn : Word) : ignoresIme (ldRRnn p nn) := fun g b =>
  ⟨b, congrArg (GameBoy.spend 12) (g.setR16_withIme b _ _)⟩
@[simp] theorem ignoresIme_ldNnSp (nn : Word) : ignoresIme (ldNnSp nn) := fun g b =>
  ⟨b, congrArg (GameBoy.spend 20) (g.memWrite16_withIme b _ _)⟩
@[simp] theorem ignoresIme_ldSpHl : ignoresIme ldSpHl := fun _ b => ⟨b, rfl⟩
@[simp] theorem ignoresIme_ldHlSpE (e : Byte) : ignoresIme (ldHlSpE e) := fun _ b => ⟨b, rfl⟩
@[simp] theorem ignoresIme_pushPair (p : R16Stk) : ignoresIme (pushPair p) := fun g b =>
  ⟨b, congrArg (GameBoy.spend 16) (g.push16_withIme b _)⟩
@[simp] theorem ignoresIme_popPair (p : R16Stk) : ignoresIme (popPair p) := fun g b =>
  ⟨b, congrArg (GameBoy.spend 12) (g.popped.setR16stk_withIme b _ _)⟩
@[simp] theorem ignoresIme_aluOperand (op : AluOp) (x : Operand) : ignoresIme (aluOperand op x) := fun _ b => ⟨b, rfl⟩
@[simp] theorem ignoresIme_aluImmediate (op : AluOp) (n : Byte) : ignoresIme (aluImmediate op n) := fun _ b => ⟨b, rfl⟩
@[simp] theorem ignoresIme_incOperand (x : Operand) : ignoresIme (incOperand x) := fun g b =>
  ⟨b, congrArg (fun g' : GameBoy => ({ g' with f := _ } : GameBoy).spend _) (g.put_withIme b _ _)⟩
@[simp] theorem ignoresIme_decOperand (x : Operand) : ignoresIme (decOperand x) := fun g b =>
  ⟨b, congrArg (fun g' : GameBoy => ({ g' with f := _ } : GameBoy).spend _) (g.put_withIme b _ _)⟩
@[simp] theorem ignoresIme_runDaa : ignoresIme runDaa := fun _ b => ⟨b, rfl⟩
@[simp] theorem ignoresIme_runCpl : ignoresIme runCpl := fun _ b => ⟨b, rfl⟩
@[simp] theorem ignoresIme_runScf : ignoresIme runScf := fun _ b => ⟨b, rfl⟩
@[simp] theorem ignoresIme_runCcf : ignoresIme runCcf := fun _ b => ⟨b, rfl⟩
@[simp] theorem ignoresIme_addHl (p : R16) : ignoresIme (addHl p) := fun _ b => ⟨b, rfl⟩
@[simp] theorem ignoresIme_incPair (p : R16) : ignoresIme (incPair p) := fun g b =>
  ⟨b, congrArg (GameBoy.spend 8) (g.setR16_withIme b _ _)⟩
@[simp] theorem ignoresIme_decPair (p : R16) : ignoresIme (decPair p) := fun g b =>
  ⟨b, congrArg (GameBoy.spend 8) (g.setR16_withIme b _ _)⟩
@[simp] theorem ignoresIme_addSpE (e : Byte) : ignoresIme (addSpE e) := fun _ b => ⟨b, rfl⟩
@[simp] theorem ignoresIme_rotateA (op : ShiftOp) : ignoresIme (rotateA op) := fun _ b => ⟨b, rfl⟩
@[simp] theorem ignoresIme_shiftOperand (op : ShiftOp) (x : Operand) : ignoresIme (shiftOperand op x) := fun g b =>
  ⟨b, congrArg (fun g' : GameBoy => ({ g' with f := _ } : GameBoy).spend _) (g.put_withIme b _ _)⟩
@[simp] theorem ignoresIme_bitTest (k : Fin 8) (x : Operand) : ignoresIme (bitTest k x) := fun _ b => ⟨b, rfl⟩
@[simp] theorem ignoresIme_bitReset (k : Fin 8) (x : Operand) : ignoresIme (bitReset k x) := fun g b =>
  ⟨b, congrArg (GameBoy.spend _) (g.put_withIme b _ _)⟩
@[simp] theorem ignoresIme_bitSet (k : Fin 8) (x : Operand) : ignoresIme (bitSet k x) := fun g b =>
  ⟨b, congrArg (GameBoy.spend _) (g.put_withIme b _ _)⟩
@[simp] theorem ignoresIme_callTo (target : Word) : ignoresIme (callTo target) := fun g b =>
  ⟨b, congrArg (fun g' : GameBoy => { g' with pc := target }) (g.push16_withIme b _)⟩
@[simp] theorem ignoresIme_jump (nn : Word) : ignoresIme (jump nn) := fun _ b => ⟨b, rfl⟩
@[simp] theorem ignoresIme_jumpHl : ignoresIme jumpHl := fun _ b => ⟨b, rfl⟩
@[simp] theorem ignoresIme_jumpRel (e : Byte) : ignoresIme (jumpRel e) := fun _ b => ⟨b, rfl⟩
@[simp] theorem ignoresIme_call (nn : Word) : ignoresIme (call nn) := fun g b =>
  (ignoresIme_callTo nn g b).imp fun _ h => by rw [call, h]; rfl
@[simp] theorem ignoresIme_returnAlways : ignoresIme returnAlways := fun _ b => ⟨b, rfl⟩
@[simp] theorem ignoresIme_returnInterrupt : ignoresIme returnInterrupt := fun _ _ => ⟨true, rfl⟩
@[simp] theorem ignoresIme_restart (ttt : Fin 8) : ignoresIme (restart ttt) := fun g b =>
  (ignoresIme_callTo _ g b).imp fun _ h => by rw [restart, h]; rfl
@[simp] theorem ignoresIme_idle4 : ignoresIme idle4 := fun _ b => ⟨b, rfl⟩
@[simp] theorem ignoresIme_halt : ignoresIme halt := fun _ b => ⟨b, rfl⟩
@[simp] theorem ignoresIme_setIme (v : Bool) : ignoresIme (setIme v) := fun _ _ => ⟨v, rfl⟩

/-- A choice by a condition code, which reads the flags alone (rule R107). -/
theorem ignoresIme_ite {f f' : GameBoy → GameBoy} (h : ignoresIme f) (h' : ignoresIme f') (cc : Cond) :
    ignoresIme fun g => if g.cond cc then f g else f' g := fun g b => by
  simp only [GameBoy.cond_withIme]
  split
  · exact h g b
  · exact h' g b

@[simp] theorem ignoresIme_spend (n : Nat) : ignoresIme (GameBoy.spend n) := fun _ b => ⟨b, rfl⟩
@[simp] theorem ignoresIme_jumpIf (cc : Cond) (nn : Word) : ignoresIme (jumpIf cc nn) :=
  ignoresIme_ite (ignoresIme_jump nn) (ignoresIme_spend 12) cc
@[simp] theorem ignoresIme_jumpRelIf (cc : Cond) (e : Byte) : ignoresIme (jumpRelIf cc e) :=
  ignoresIme_ite (ignoresIme_jumpRel e) (ignoresIme_spend 8) cc
@[simp] theorem ignoresIme_callIf (cc : Cond) (nn : Word) : ignoresIme (callIf cc nn) :=
  ignoresIme_ite (ignoresIme_call nn) (ignoresIme_spend 12) cc
@[simp] theorem ignoresIme_returnIf (cc : Cond) : ignoresIme (returnIf cc) :=
  ignoresIme_ite (f := fun g => g.returnPc.spend 20) (fun _ b => ⟨b, rfl⟩) (ignoresIme_spend 8) cc

theorem ignoresIme_runCb (op2 : Byte) : ignoresIme (runCb op2) := by
  unfold runCb
  split
  · exact ignoresIme_shiftOperand _ _
  · exact ignoresIme_bitTest _ _
  · exact ignoresIme_bitReset _ _
  · exact ignoresIme_bitSet _ _

@[simp] theorem ignoresIme_runPrefix : ignoresIme runPrefix := fun g b =>
  ignoresIme_runCb (g.memRead (.fetch 1) g.pc) (g.skipBytes 1) b

/-! ## The meanings -/

/-- A meaning that does not read `ime`: from another value of it the outcome is the same but for `ime` in the next state. -/
def meaningIgnoresIme (m : State → Result) : Prop :=
  ∀ (s : State) (b : Bool), ∃ b', m (s.withIme b) = onNext (m s) (State.withIme b')

theorem gbNext_ignoresIme {f : GameBoy → GameBoy} (h : ignoresIme f) : meaningIgnoresIme (gbNext f) := fun s b => by
  obtain ⟨b', h⟩ := h s.gb b
  exact ⟨b', (congrArg (fun g => Host.Outcome.next { s with gb := g }) h :)⟩

theorem Meaning.chip8_ignoresIme {m : State → Result} (h : Meaning .chip8 m) : meaningIgnoresIme m := by
  cases h
  exact fun _ b => ⟨b, rfl⟩

theorem undefined_ignoresIme (op : Byte) : meaningIgnoresIme (undefined op) := fun s b => by
  refine ⟨b, ?_⟩
  unfold undefined
  simp only [State.withIme]
  split <;> rfl

/-- No instruction reads `ime` (rules R28, R404). -/
theorem exec_ignoresIme (i : Instr) : meaningIgnoresIme (exec i) := by
  have hm := exec_meaning i
  cases i
  case undefined_D3 | undefined_DB | undefined_DD | undefined_E3 | undefined_E4 | undefined_EB | undefined_EC | undefined_ED
      | undefined_F4 | undefined_FC | undefined_FD => exact undefined_ignoresIme _
  case ch8_cls | ch8_ret | ch8_sys_nnn | ch8_jp_nnn | ch8_call_nnn | ch8_se_Vx_nn | ch8_sne_Vx_nn | ch8_se_Vx_Vy | ch8_ld_Vx_nn
      | ch8_add_Vx_nn | ch8_ld_Vx_Vy | ch8_or_Vx_Vy | ch8_and_Vx_Vy | ch8_xor_Vx_Vy | ch8_add_Vx_Vy | ch8_sub_Vx_Vy
      | ch8_shr_Vx_Vy | ch8_subn_Vx_Vy | ch8_shl_Vx_Vy | ch8_sne_Vx_Vy | ch8_ld_I_nnn | ch8_jp_V0_nnn | ch8_rnd_Vx_nn
      | ch8_drw_Vx_Vy_n | ch8_skp_Vx | ch8_sknp_Vx | ch8_ld_Vx_DT | ch8_ld_Vx_K | ch8_ld_DT_Vx | ch8_ld_ST_Vx | ch8_add_I_Vx
      | ch8_ld_F_Vx | ch8_ld_B_Vx | ch8_ld_atI_Vx | ch8_ld_Vx_atI => exact hm.chip8_ignoresIme
  case ld_A_atBC | ld_A_atDE | ld_A_atC | ldh_A_at_n | ld_A_at_nn => exact fun _ b => ⟨b, rfl⟩
  case ld_atBC_A => exact gbNext_ignoresIme (ignoresIme_storeA (fun g => g.bc) (fun _ _ => rfl) 8)
  case ld_atDE_A => exact gbNext_ignoresIme (ignoresIme_storeA (fun g => g.de) (fun _ _ => rfl) 8)
  case ld_atC_A => exact gbNext_ignoresIme (ignoresIme_storeA (fun g => highPage g.c) (fun _ _ => rfl) 8)
  case ldh_at_n_A n => exact gbNext_ignoresIme (ignoresIme_storeA (fun _ => highPage n) (fun _ _ => rfl) 12)
  case ld_at_nn_A nn => exact gbNext_ignoresIme (ignoresIme_storeA (fun _ => nn) (fun _ _ => rfl) 16)
  all_goals
    refine gbNext_ignoresIme ?_
    simp

/-! ## The turns -/

/-- The CPU step without vectoring tests `halted` and the requests, not `ime` (rules R401, R404). -/
theorem cpuStep_withIme {s : State} (hv : s.cfg.irqVectoring = .none) (b : Bool) :
    ∃ b', cpuStep (s.withIme b) = onNext (cpuStep s) (State.withIme b') := by
  have hrun (s : State) (hv : s.cfg.irqVectoring = .none) (b : Bool) :
      ∃ b', interruptOrInstr (s.withIme b) = onNext (interruptOrInstr s) (State.withIme b') := by
    have hnone (s : State) (hv : s.cfg.irqVectoring = .none) : interruptOrInstr s = runInstr s := by
      simp [interruptOrInstr, hv]
    rw [hnone (s.withIme b) hv, hnone s hv]
    exact exec_ignoresIme s.gb.fetchInstr.1 { s with gb := s.gb.skipBytes s.gb.fetchInstr.2 } b
  have hhalted : (s.withIme b).gb.halted = s.gb.halted := rfl
  have hwake : (s.withIme b).gb.wakePending = s.gb.wakePending := rfl
  unfold cpuStep
  rw [hhalted, hwake]
  split
  · split
    · exact hrun { s with gb := wake s.gb } hv b
    · exact ⟨b, rfl⟩
  · exact hrun s hv b

theorem GameBoy.renderScanline_withIme (line : Nat) (g : GameBoy) (b : Bool) :
    (g.withIme b).renderScanline line = (g.renderScanline line).withIme b := by
  unfold GameBoy.renderScanline
  generalize List.range 160 = columns
  induction columns generalizing g with
  | nil => rfl
  | cons col rest ih => exact ih (GameBoy.drawPixel line g col)

theorem GameBoy.setCell_withIme (g : GameBoy) (b : Bool) (k : Nat) (v : Byte) :
    (g.withIme b).setCell k v = (g.setCell k v).withIme b := rfl

theorem GameBoy.requestVblank_withIme (g : GameBoy) (b : Bool) : (g.withIme b).requestVblank = g.requestVblank.withIme b := rfl

theorem GameBoy.lineEnd_withIme (g : GameBoy) (b : Bool) : (g.withIme b).lineEnd = g.lineEnd.withIme b := by
  have hly : (g.withIme b).ly = g.ly := rfl
  have hc : { g.withIme b with scanlineCounter := (g.withIme b).scanlineCounter - Config.lineCycles } =
      GameBoy.withIme b { g with scanlineCounter := g.scanlineCounter - Config.lineCycles } := rfl
  unfold GameBoy.lineEnd
  simp only [hly, hc, GameBoy.renderScanline_withIme, ← apply_ite (GameBoy.withIme b), GameBoy.setCell_withIme,
    GameBoy.requestVblank_withIme]

theorem GameBoy.lineLoop_withIme (turns : Nat) (g : GameBoy) (b : Bool) :
    (g.withIme b).lineLoop turns = (g.lineLoop turns).withIme b := by
  induction turns generalizing g with
  | zero => rfl
  | succ k ih =>
    unfold GameBoy.lineLoop
    rw [GameBoy.lineEnd_withIme, ih]
    exact (apply_ite (GameBoy.withIme b) _ _ _).symm

theorem GameBoy.ppuAdvance_withIme (n : Nat) (g : GameBoy) (b : Bool) :
    (g.withIme b).ppuAdvance n = (g.ppuAdvance n).withIme b := by
  unfold GameBoy.ppuAdvance
  rw [apply_ite (GameBoy.withIme b)]
  simp only [← GameBoy.lineLoop_withIme]
  rfl

theorem gbTurnStart_withIme (s : State) (b : Bool) : gbTurnStart (s.withIme b) = (gbTurnStart s).withIme b := by
  unfold gbTurnStart
  rw [apply_ite (State.withIme b)]
  rfl

theorem gbTurnEnd_withIme (s : State) (b : Bool) : gbTurnEnd (s.withIme b) = (gbTurnEnd s).withIme b := by
  have hp : { s.withIme b with gb := advancePpu (s.gb.withIme b) } = State.withIme b { s with gb := advancePpu s.gb } := by
    unfold advancePpu
    rw [GameBoy.ppuAdvance_withIme]
    rfl
  unfold gbTurnEnd gbTickStep
  rw [apply_ite (State.withIme b)]
  exact hp ▸ rfl

/-- An outcome that ignores `ime`, followed by an operation that carries it along. -/
theorem ignoresIme_onNext {m m' : Result} (h : ∃ b', m' = onNext m (State.withIme b')) {f : State → State}
    (hf : ∀ s b, f (s.withIme b) = (f s).withIme b) : ∃ b', onNext m' f = onNext (onNext m f) (State.withIme b') := by
  obtain ⟨b', rfl⟩ := h
  refine ⟨b', ?_⟩
  simp only [onNext_onNext, hf]

theorem gbTurn_withIme {s : State} (hv : s.cfg.irqVectoring = .none) (b : Bool) :
    ∃ b', gbTurn (s.withIme b) = onNext (gbTurn s) (State.withIme b') := by
  have hcfg : (gbTurnStart s).cfg.irqVectoring = .none := by
    unfold gbTurnStart
    split <;> exact hv
  have hlen : (s.withIme b).gb.romLen = s.gb.romLen := rfl
  have hstop : (s.withIme b).stopped = s.stopped := rfl
  unfold gbTurn
  rw [hlen, hstop]
  split
  · exact ⟨b, rfl⟩
  split
  · exact ⟨b, rfl⟩
  rw [gbTurnStart_withIme]
  exact ignoresIme_onNext (cpuStep_withIme hcfg b) gbTurnEnd_withIme

theorem ch8Step_ignoresIme : meaningIgnoresIme ch8Step := fun s b => by
  have hwait : (s.withIme b).ch8 = s.ch8 := rfl
  unfold ch8Step
  rw [hwait]
  split
  · exact ⟨b, rfl⟩
  split
  · exact exec_ignoresIme _ { s with ch8 := s.ch8.advance } b
  · exact ⟨b, rfl⟩

theorem ch8TurnStart_withIme (s : State) (b : Bool) : ch8TurnStart (s.withIme b) = (ch8TurnStart s).withIme b := by
  unfold ch8TurnStart
  rw [apply_ite (State.withIme b)]
  rfl

theorem ch8TickStep_withIme (s : State) (b : Bool) : ch8TickStep (s.withIme b) = (ch8TickStep s).withIme b := by
  unfold ch8TickStep
  rw [apply_ite (State.withIme b)]
  rfl

theorem ch8Turn_ignoresIme : meaningIgnoresIme ch8Turn := fun s b => by
  have hstop : (s.withIme b).stopped = s.stopped := rfl
  have htick : (s.withIme b).tickSteps = s.tickSteps := rfl
  have hcfg : (s.withIme b).cfg = s.cfg := rfl
  unfold ch8Turn
  rw [hstop, htick, hcfg, ch8TurnStart_withIme]
  split
  · exact ⟨b, rfl⟩
  split
  · exact ignoresIme_onNext (ch8Step_ignoresIme _ b) ch8TickStep_withIme
  · exact ⟨b, rfl⟩

theorem machineTurn_withIme {s : State} (hv : s.cfg.irqVectoring = .none) (b : Bool) :
    ∃ b', machineTurn (s.withIme b) = onNext (machineTurn s) (State.withIme b') := by
  have hactive : (s.withIme b).active = s.active := rfl
  unfold machineTurn
  rw [hactive]
  split
  · exact gbTurn_withIme hv b
  · exact ch8Turn_ignoresIme s b

/-- A host call carries `ime` along or, by a load or a reset of the Game Boy machine, clears it (rules R450, R453). -/
theorem State.hostApply_withIme (call : HostCall) (s : State) (b : Bool) :
    ∃ b', State.hostApply call (s.withIme b) = (State.hostApply call s).withIme b' := by
  have hite (p : Prop) [Decidable p] {e e' t t' : State} {v : Bool} (he : e' = e.withIme b) (ht : t' = t.withIme v) :
      ∃ b', (if p then e' else t') = (if p then e else t).withIme b' := by
    split
    · exact ⟨b, he⟩
    · exact ⟨v, ht⟩
  unfold State.hostApply
  split
  case h_1 | h_4 => exact hite _ (v := false) rfl rfl
  case h_2 => exact hite _ (v := b) rfl rfl
  all_goals exact ⟨b, rfl⟩

theorem step_withIme {s : State} (hv : s.cfg.irqVectoring = .none) (b : Bool) :
    ∃ b', step (s.withIme b) = onNext (step s) (State.withIme b') := by
  unfold step
  rcases schedulerTurn_cases s with ⟨c, rest, hn, hq, he⟩ | ⟨rest, hn, hq, he⟩ | ⟨hb, he⟩ <;> rw [he]
  · rw [schedulerTurn_call (s.withIme b) c rest hn hq]
    obtain ⟨b', h⟩ := State.hostApply_withIme c { s with hostCalls := rest } b
    exact ⟨b', congrArg Host.Outcome.next h⟩
  · rw [schedulerTurn_stepFrame (s.withIme b) rest hn hq]
    exact machineTurn_withIme (s := { s with hostCalls := rest }) hv b
  · rw [schedulerTurn_noEvent (s.withIme b) hb]
    exact machineTurn_withIme hv b

/-- Settles O11: no instruction, no wait and no PPU advance reads `ime`, and without vectoring the interrupt test fails by itself. -/
theorem imeIsNeverObservedWithoutVectoring : Obligations.ImeIsNeverObservedWithoutVectoring := by
  intro s b hv
  obtain ⟨b', h⟩ := step_withIme hv b
  refine ⟨fun t ht => ⟨t.withIme b', ?_, rfl⟩, fun f hf => ?_⟩
  · rw [h, ht]; rfl
  · rw [h, hf]; rfl

end Sys2Proof.Machine
end

section
/-! SUPPORT. Proofs: what no instruction writes (O17). -/

namespace Sys2Proof.Machine

/-- No instruction changes what the host and the PPU alone write, on either machine. -/
theorem exec_unwritten {i : Instr} {s t : State} (ht : exec i s = .next t) :
    t.gb.unwritten = s.gb.unwritten ∧ t.ch8.inputs = s.ch8.inputs := by
  rcases exec_next_cases ht with ⟨f, hf, rfl⟩ | ⟨f, hf, rfl⟩
  · exact ⟨hf.unwritten_eq s.gb, rfl⟩
  · exact ⟨rfl, hf.inputs_eq s.ch8⟩

theorem gfx_ch8Ret (c : Chip8) : (ch8Ret c).gfx = c.gfx := by unfold ch8Ret; split <;> rfl

theorem gfx_ch8Call (nnn : Addr12) (c : Chip8) : (ch8Call nnn c).gfx = c.gfx := by unfold ch8Call; split <;> rfl

/-- A CHIP-8 instruction other than `CLS` and `DRW` leaves the display alone (rule R46). -/
theorem exec_gfx_of_chip8 {i : Instr} (hi : i.machine = .chip8) (hcls : i ≠ .ch8_cls)
    (hdrw : ∀ x y n, i ≠ .ch8_drw_Vx_Vy_n x y n) {s t : State} (ht : exec i s = .next t) : t.ch8.gfx = s.ch8.gfx := by
  cases i
  case ch8_cls => exact absurd rfl hcls
  case ch8_drw_Vx_Vy_n x y n => exact absurd rfl (hdrw x y n)
  case ch8_ret => cases ht; exact gfx_ch8Ret s.ch8
  case ch8_call_nnn nnn => cases ht; exact gfx_ch8Call nnn s.ch8
  case ch8_se_Vx_nn | ch8_sne_Vx_nn | ch8_se_Vx_Vy | ch8_sne_Vx_Vy | ch8_skp_Vx | ch8_sknp_Vx => cases ht; exact s.ch8.skipIf_gfx _
  case ch8_ld_atI_Vx => cases ht; exact Chip8.foldl_keeps Chip8.gfx (body := storeReg) (fun _ _ => rfl) _ s.ch8
  case ch8_ld_Vx_atI => cases ht; exact Chip8.foldl_keeps Chip8.gfx (body := loadReg) (fun _ _ => rfl) _ s.ch8
  case ch8_sys_nnn | ch8_jp_nnn | ch8_ld_Vx_nn | ch8_add_Vx_nn | ch8_ld_Vx_Vy | ch8_or_Vx_Vy | ch8_and_Vx_Vy | ch8_xor_Vx_Vy
      | ch8_add_Vx_Vy | ch8_sub_Vx_Vy | ch8_shr_Vx_Vy | ch8_subn_Vx_Vy | ch8_shl_Vx_Vy | ch8_ld_I_nnn | ch8_jp_V0_nnn
      | ch8_rnd_Vx_nn | ch8_ld_Vx_DT | ch8_ld_Vx_K | ch8_ld_DT_Vx | ch8_ld_ST_Vx | ch8_add_I_Vx | ch8_ld_F_Vx | ch8_ld_B_Vx =>
    cases ht; rfl
  all_goals cases hi

/-- Settles O17: an instruction is an operation of one machine, and none writes the inputs; of the CHIP-8 words two write the display. -/
theorem instructionsLeaveRomPpuAndDisplay : Obligations.InstructionsLeaveRomPpuAndDisplay := by
  refine ⟨fun i s t ht => ?_, fun i s t ht hcls hdrw => ?_⟩
  · obtain ⟨hgb, hch8⟩ := exec_unwritten ht
    simp only [GameBoy.unwritten, Chip8.inputs, Prod.mk.injEq] at hgb hch8
    obtain ⟨⟨hrom, hlen, hbuttons⟩, hcounter, hframe, hframebuffer⟩ := hgb
    exact ⟨hrom, hlen, hbuttons, hcounter, hframe, hframebuffer, hch8⟩
  · cases hi : i.machine with
    | gameBoy =>
      have hm := exec_meaning i
      rw [hi] at hm
      obtain ⟨f, -, rfl⟩ := hm.gameBoy_next ht
      rfl
    | chip8 => exact exec_gfx_of_chip8 hi hcls hdrw ht

end Sys2Proof.Machine
end

section
/-! SUPPORT. Proofs: the register file and the operand forms (O26), the joypad port (O25), and the PPU by lines (O32). -/

namespace Sys2Proof.Machine

/-! ## The register file -/

theorem GameBoy.r8_setR8 (g : GameBoy) (r r' : R8) (v : Byte) : (g.setR8 r v).r8 r' = if r' = r then v else g.r8 r' := by
  cases r <;> cases r' <;> rfl

theorem GameBoy.setR8_frame (g : GameBoy) (r : R8) (v : Byte) :
    { g.setR8 r v with a := g.a, b := g.b, c := g.c, d := g.d, e := g.e, h := g.h, l := g.l } = g := by
  cases r <;> rfl

theorem GameBoy.r16_setR16 (g : GameBoy) (p p' : R16) (v : Word) :
    (g.setR16 p v).r16 p' = if p' = p then v else g.r16 p' := by
  cases p <;> cases p' <;>
    simp [GameBoy.setR16, GameBoy.r16, GameBoy.setHl, GameBoy.bc, GameBoy.de, GameBoy.hl]

theorem GameBoy.setR16_frame (g : GameBoy) (p : R16) (v : Word) :
    { g.setR16 p v with b := g.b, c := g.c, d := g.d, e := g.e, h := g.h, l := g.l, sp := g.sp } = g := by
  cases p <;> rfl

/-- `F` as a byte, bit by bit (rule R24). -/
theorem Flags.toByte_bits (f : Flags) : f.toByte &&& 0x0F = 0 ∧ f.toByte.getLsbD 7 = f.z ∧ f.toByte.getLsbD 6 = f.n ∧
    f.toByte.getLsbD 5 = f.h ∧ f.toByte.getLsbD 4 = f.c := by
  obtain ⟨z, n, h, c⟩ := f
  revert z n h c
  decide

theorem Flags.ofByte_toByte (f : Flags) : Flags.ofByte f.toByte = f := by
  obtain ⟨-, hz, hn, hh, hc⟩ := f.toByte_bits
  simp only [Flags.ofByte, hz, hn, hh, hc]

/-- A byte written to `F` loses its low nibble (rule R24). -/
theorem Flags.toByte_ofByte (v : Byte) : (Flags.ofByte v).toByte = v &&& 0xF0 := by
  revert v
  decide

theorem joinBytes_dropLowNibble (v : Word) : joinBytes (highByte v) (lowByte v &&& 0xF0#8) = v &&& 0xFFF0#16 := by
  have hand : (highByte v ++ lowByte v) &&& (0xFF#8 ++ 0xF0#8) = (highByte v &&& 0xFF#8) ++ (lowByte v &&& 0xF0#8) :=
    BitVec.and_append
  have hv : highByte v ++ lowByte v = v := joinBytes_high_low v
  rw [hv, show highByte v &&& 0xFF#8 = highByte v from BitVec.and_allOnes] at hand
  exact hand.symm

/-- A pair of the stack is read back as written, but for the low nibble of `F` (rules R21, R24). -/
theorem GameBoy.r16stk_setR16stk (g : GameBoy) (p p' : R16Stk) (v : Word) : (g.setR16stk p v).r16stk p' =
    if p' = p then (if p = .af then v &&& 0xFFF0 else v) else g.r16stk p' := by
  cases p <;> cases p' <;>
    simp [GameBoy.setR16stk, GameBoy.r16stk, GameBoy.setHl, GameBoy.bc, GameBoy.de, GameBoy.hl, GameBoy.af, Flags.toByte_ofByte,
      joinBytes_dropLowNibble]

theorem GameBoy.setR16stk_frame (g : GameBoy) (p : R16Stk) (v : Word) :
    { g.setR16stk p v with a := g.a, f := g.f, b := g.b, c := g.c, d := g.d, e := g.e, h := g.h, l := g.l } = g := by
  cases p <;> rfl

theorem toNat_highPage (n : Byte) : (highPage n).toNat = 0xFF00 + n.toNat := by
  have := n.isLt
  have hbase : (0xFF00 : Word).toNat = 0xFF00 := rfl
  unfold highPage
  rw [BitVec.toNat_add, BitVec.toNat_setWidth, hbase]
  omega

theorem toInt_sext16 (e : Byte) : (sext16 e).toInt = e.toInt := BitVec.toInt_signExtend_of_le (by decide)

/-- Settles O26: the register file's lemmas above; the operand forms are what their definitions say. -/
theorem registerFileAndOperandForms : Obligations.RegisterFileAndOperandForms := by
  refine ⟨⟨GameBoy.r8_setR8, GameBoy.setR8_frame, GameBoy.r16_setR16, GameBoy.setR16_frame, fun _ => ⟨rfl, rfl, rfl, rfl⟩,
    fun _ => ⟨rfl, rfl, rfl, rfl⟩, GameBoy.r16stk_setR16stk, GameBoy.setR16stk_frame, fun f => ?_, Flags.toByte_ofByte⟩,
    fun _ _ => rfl, fun _ => rfl, fun _ _ _ => rfl, fun _ _ => rfl, fun _ => ⟨rfl, rfl, rfl, rfl⟩, toNat_highPage, toInt_sext16⟩
  obtain ⟨hlow, hz, hn, hh, hc⟩ := f.toByte_bits
  exact ⟨hlow, hz, hn, hh, hc, f.ofByte_toByte⟩

/-! ## The joypad port -/

/-- The joypad port as read: the stored selector bits, and the AND of the selected halves of the latch (rule R76). -/
theorem GameBoy.joypad_eq (g : GameBoy) : g.joypad = (g.cell 0xFF00 &&& 0x30) |||
    ((if (g.cell 0xFF00).getLsbD 4 then (0x0F : Byte) else g.buttons &&& 0x0F) &&&
      (if (g.cell 0xFF00).getLsbD 5 then (0x0F : Byte) else g.buttons >>> 4)) := by
  have h4 : (g.cell 0xFF00 &&& 0x30).getLsbD 4 = (g.cell 0xFF00).getLsbD 4 := by simp
  have h5 : (g.cell 0xFF00 &&& 0x30).getLsbD 5 = (g.cell 0xFF00).getLsbD 5 := by simp
  have hlow (x : Byte) : 0x0F &&& (x &&& 0x0F) = x &&& 0x0F := by
    rw [BitVec.and_comm, BitVec.and_assoc, BitVec.and_self]
  unfold GameBoy.joypad
  simp only [h4, h5]
  congr 2
  split
  · rfl
  · exact hlow _

/-- The mask of a button is its bit alone. -/
theorem buttonMask_bit (index k : Fin 8) : (1#8 <<< index.val).getLsbD k.val = decide (k = index) := by
  revert index k
  decide

theorem GameBoy.setButton_bit (g : GameBoy) (index k : Fin 8) (pressed : Bool) :
    (g.setButton index pressed).buttons.getLsbD k.val = if k = index then !pressed else g.buttons.getLsbD k.val := by
  have hones : (0xFF : Byte).getLsbD k.val = true := by revert k; decide
  unfold GameBoy.setButton
  cases pressed
  · simp only [Bool.false_eq_true, if_false, BitVec.getLsbD_or, buttonMask_bit]
    split <;> simp [*]
  · simp only [if_true, BitVec.getLsbD_and, BitVec.getLsbD_xor, buttonMask_bit, hones]
    split <;> simp [*]

/-- Settles O25: the port's read, the stored selector bits, and the one bit of the latch that a button is. -/
theorem joypadPort : Obligations.JoypadPort :=
  ⟨fun g _ => g.joypad_eq, fun _ _ hw => (GameBoy.cell_setCell hw 0xFF00 0xFF00 _).trans (if_pos rfl),
    fun s index k pressed => s.gb.setButton_bit index k pressed, fun _ _ _ => rfl⟩

/-! ## The PPU by lines -/

/-- An advance that does not reach the end of a line moves the counter alone (rule R413). -/
theorem GameBoy.ppuAdvance_within {g : GameBoy} {n : Nat} (hon : g.lcdc.getLsbD 7 = true) (h : g.scanlineCounter + n < 456) :
    g.ppuAdvance n = { g with scanlineCounter := g.scanlineCounter + n } := by
  unfold GameBoy.ppuAdvance
  rw [if_pos hon]
  simp only [Config.lineCycles, Nat.div_eq_of_lt h]
  rfl

/-- An advance over the end of one line ends that line (rule R413). -/
theorem GameBoy.ppuAdvance_oneLine {g : GameBoy} {n : Nat} (hon : g.lcdc.getLsbD 7 = true) (h : 456 ≤ g.scanlineCounter + n)
    (h' : g.scanlineCounter + n < 912) :
    g.ppuAdvance n = GameBoy.lineEnd { g with scanlineCounter := g.scanlineCounter + n } := by
  have hturns : (g.scanlineCounter + n) / Config.lineCycles = 1 := by unfold Config.lineCycles; omega
  unfold GameBoy.ppuAdvance
  rw [if_pos hon]
  simp only [hturns]
  exact if_pos h

/-- `LY` moves on modulo 154 (rule R413). -/
theorem toNat_nextLine (ly : Byte) : (nextLine ly).toNat = (ly.toNat + 1) % 154 := by
  have := Nat.mod_lt (ly.toNat + 1) (show 154 > 0 by decide)
  unfold nextLine
  rw [BitVec.toNat_ofNat]
  omega

theorem nextLine_eq_144_iff (ly : Byte) : nextLine ly = 144 ↔ (ly.toNat + 1) % 154 = 144 := by
  rw [← toNat_nextLine]
  exact ⟨congrArg BitVec.toNat, fun h => BitVec.eq_of_toNat_eq h⟩

/-- What a rendered line shows depends on the bus memory and the old framebuffer alone. -/
theorem GameBoy.framebuffer_renderScanline_congr {g g' : GameBoy} (hm : g'.mem = g.mem) (hf : g'.framebuffer = g.framebuffer)
    (line : Nat) : (g'.renderScanline line).framebuffer = (g.renderScanline line).framebuffer := by
  unfold GameBoy.renderScanline
  generalize List.range 160 = columns
  induction columns generalizing g g' with
  | nil => exact hf
  | cons col rest ih =>
    refine ih (g := GameBoy.drawPixel line g col) (g' := GameBoy.drawPixel line g' col) hm ?_
    rw [GameBoy.drawPixel_framebuffer, GameBoy.drawPixel_framebuffer, hf, GameBoy.shade_congr hm]

/-- The end of a line after its rendering: the next `LY`, and at line 144 the request (rule R413). -/
def GameBoy.nextLineRequest (ly : Byte) (g : GameBoy) : GameBoy :=
  if nextLine ly = 144 then (g.setCell 0xFF44 (nextLine ly)).requestVblank else g.setCell 0xFF44 (nextLine ly)

/-- The rendering of a line, if it is visible, with the line's T-states off the counter (rule R413). -/
def GameBoy.renderVisible (g : GameBoy) : GameBoy :=
  if g.ly.toNat < 144 then
    GameBoy.renderScanline g.ly.toNat { g with scanlineCounter := g.scanlineCounter - Config.lineCycles }
  else { g with scanlineCounter := g.scanlineCounter - Config.lineCycles }

theorem GameBoy.lineEnd_eq (g : GameBoy) : g.lineEnd = g.renderVisible.nextLineRequest g.ly := rfl

theorem GameBoy.renderVisible_keeps {β : Type} (f : GameBoy → β)
    (hf : ∀ (g : GameBoy) b n, f { g with framebuffer := b, scanlineCounter := n } = f g) (g : GameBoy) :
    f g.renderVisible = f g := by
  have h1 := hf g g.framebuffer (g.scanlineCounter - Config.lineCycles)
  unfold GameBoy.renderVisible
  split
  · exact (GameBoy.renderScanline_keeps f (fun g b => hf g b g.scanlineCounter) _ _).trans h1
  · exact h1

theorem GameBoy.framebuffer_renderVisible (g : GameBoy) :
    g.renderVisible.framebuffer = if g.ly.toNat < 144 then (g.renderScanline g.ly.toNat).framebuffer else g.framebuffer := by
  unfold GameBoy.renderVisible
  split
  · apply GameBoy.framebuffer_renderScanline_congr <;> rfl
  · rfl

theorem GameBoy.cell_nextLineRequest {g : GameBoy} (hw : Memory.wf busInit g.mem = true) (ly : Byte) (k : Nat) :
    (g.nextLineRequest ly).cell k =
      if k = 0xFF44 then nextLine ly else if k = 0xFF0F ∧ nextLine ly = 144 then g.ifReg ||| 0x01 else g.cell k := by
  have hset := GameBoy.cell_setCell hw 0xFF44 (v := nextLine ly)
  have hif : (g.setCell 0xFF44 (nextLine ly)).ifReg = g.ifReg := hset 0xFF0F
  have hne (h : ¬ (k = 0xFF0F ∧ nextLine ly = 144)) :
      (if k = 0xFF0F ∧ nextLine ly = 144 then g.ifReg ||| 0x01 else g.cell k) = g.cell k := if_neg h
  unfold GameBoy.nextLineRequest
  split
  · next h =>
    refine (GameBoy.cell_setCell (GameBoy.wf_setCell hw 0xFF44 _) 0xFF0F k _).trans ?_
    rw [hif, hset]
    by_cases hk : k = 0xFF0F
    · rw [if_pos hk, if_neg (by omega), if_pos ⟨hk, h⟩]
    · rw [if_neg hk, hne fun e => hk e.1]
  · next h => rw [hset, hne fun e => h e.2]

/-- The end of a line, cell by cell: `LY` moves on, and at line 144 bit 0 of `IF` is set (rule R413). -/
theorem GameBoy.cell_lineEnd {g : GameBoy} (hw : Memory.wf busInit g.mem = true) (k : Nat) :
    g.lineEnd.cell k =
      if k = 0xFF44 then nextLine g.ly else if k = 0xFF0F ∧ nextLine g.ly = 144 then g.ifReg ||| 0x01 else g.cell k := by
  have hmem := GameBoy.renderVisible_keeps GameBoy.mem (fun _ _ _ => rfl) g
  have hif := GameBoy.renderVisible_keeps GameBoy.ifReg (fun _ _ _ => rfl) g
  have hcell : g.renderVisible.cell k = g.cell k := GameBoy.renderVisible_keeps (·.cell k) (fun _ _ _ => rfl) g
  rw [GameBoy.lineEnd_eq, GameBoy.cell_nextLineRequest (hmem ▸ hw), hif, hcell]

theorem GameBoy.frameReady_nextLineRequest (g : GameBoy) (ly : Byte) :
    (g.nextLineRequest ly).frameReady = if nextLine ly = 144 then true else g.frameReady := by
  unfold GameBoy.nextLineRequest
  split <;> rfl

theorem GameBoy.framebuffer_nextLineRequest (g : GameBoy) (ly : Byte) :
    (g.nextLineRequest ly).framebuffer = g.framebuffer := by
  unfold GameBoy.nextLineRequest
  split <;> rfl

theorem GameBoy.frameReady_lineEnd (g : GameBoy) :
    g.lineEnd.frameReady = if nextLine g.ly = 144 then true else g.frameReady := by
  rw [GameBoy.lineEnd_eq, GameBoy.frameReady_nextLineRequest,
    GameBoy.renderVisible_keeps GameBoy.frameReady (fun _ _ _ => rfl)]

theorem GameBoy.framebuffer_lineEnd (g : GameBoy) :
    g.lineEnd.framebuffer = if g.ly.toNat < 144 then (g.renderScanline g.ly.toNat).framebuffer else g.framebuffer := by
  rw [GameBoy.lineEnd_eq, GameBoy.framebuffer_nextLineRequest, GameBoy.framebuffer_renderVisible]

/-- The machine with the parts of another that the end of a line can change (rule R413). -/
def GameBoy.withVideoOf (g g' : GameBoy) : GameBoy :=
  { g with mem := g'.mem, framebuffer := g'.framebuffer, frameReady := g'.frameReady, scanlineCounter := g'.scanlineCounter }

/-- Settles O32: within a line the counter alone moves, and a completed line is one `lineEnd`. -/
theorem ppuAdvanceByLines : Obligations.PpuAdvanceByLines := by
  refine ⟨fun g n => ⟨fun hoff => ?_, GameBoy.ppuAdvance_within⟩, fun g n hw hon hlo hhi => ?_⟩
  · exact if_neg (Bool.eq_false_iff.mp hoff)
  rw [GameBoy.ppuAdvance_oneLine hon hlo hhi, ne_eq, ← nextLine_eq_144_iff]
  have hcell := GameBoy.cell_lineEnd (g := { g with scanlineCounter := g.scanlineCounter + n }) hw
  have hframe := GameBoy.frameReady_lineEnd { g with scanlineCounter := g.scanlineCounter + n }
  have hly : GameBoy.ly { g with scanlineCounter := g.scanlineCounter + n } = g.ly := rfl
  rw [hly] at hcell hframe
  refine ⟨GameBoy.lineEnd_counter _, ?_, fun h => ⟨?_, ?_⟩, fun h => ⟨?_, ?_⟩, ?_, fun k hk hk' => ?_, ?_⟩
  · exact (congrArg BitVec.toNat (hcell 0xFF44)).trans (toNat_nextLine g.ly)
  · exact hframe.trans (if_pos h)
  · exact (hcell 0xFF0F).trans ((if_neg (by decide)).trans (if_pos ⟨rfl, h⟩))
  · exact hframe.trans (if_neg h)
  · exact (hcell 0xFF0F).trans ((if_neg (by decide)).trans (if_neg fun e => h e.2))
  · rw [GameBoy.framebuffer_lineEnd, hly]
    split
    · apply GameBoy.framebuffer_renderScanline_congr <;> rfl
    · rfl
  · exact (hcell k).trans ((if_neg hk).trans (if_neg fun e => hk' e.1))
  · exact GameBoy.lineEnd_keeps (·.withVideoOf g) (fun _ _ _ _ _ => rfl) { g with scanlineCounter := g.scanlineCounter + n }

end Sys2Proof.Machine
end

section
/-! SUPPORT. Proofs: reset and loading of both machines (O21, O22, O23). -/

namespace Sys2Proof.Machine

/-! ## The Game Boy machine -/

/-- A reset machine with an empty bus memory reads its reset contents (rule R39). -/
theorem busInit_of_ne {k : Nat} (h40 : k ≠ 0xFF40) (h47 : k ≠ 0xFF47) : busInit k = 0x00 := by
  unfold busInit
  rw [if_neg h40, if_neg h47]

/-- Settles O21: nothing is listed in the stores of the reset state, so they read as their reset contents. -/
theorem gameBoyResetState : Obligations.GameBoyResetState := by
  refine ⟨?_, ?_, fun k h40 h47 => busInit_of_ne h40 h47, fun _ _ => rfl, ?_, fun s hs => ?_⟩
  · decide
  · decide
  · decide
  · exact if_neg hs

/-- A read in the image of the ROM ranges gives the image byte at the offset that the range maps to (rules R63, R64). -/
theorem GameBoy.romByte_of_lt {g : GameBoy} {k : Nat} (h : k < g.romLen) (slot : ReadSlot) : g.romByte slot k = g.imageByte k :=
  if_pos h

/-- With bank 1 the first 32 KiB of the image are mapped directly (rules R63, R65). -/
theorem GameBoy.memRead_rom_of_bank1 {g : GameBoy} (hb : g.romBank = 1) {addr : Word} (ha : addr.toNat < 0x8000)
    (h : addr.toNat < g.romLen) (slot : ReadSlot) : g.memRead slot addr = g.imageByte addr.toNat := by
  have hbounds := regionOf_bounds addr
  have hoffset : 0x4000 ≤ addr.toNat → g.romBank.toNat * 0x4000 + (addr.toNat - 0x4000) = addr.toNat := fun h4 => by
    have h1 : (1 : BitVec 5).toNat = 1 := rfl
    rw [hb, h1]
    omega
  unfold GameBoy.memRead
  cases hr : regionOf addr <;> rw [hr] at hbounds <;> simp only [regionBounds] at hbounds
  case ramGate | bankSelect => exact GameBoy.romByte_of_lt h slot
  case romWindow =>
    simp only
    rw [hoffset hbounds.1]
    exact GameBoy.romByte_of_lt h slot
  all_goals omega

/-- A loaded machine is the reset machine but for the image and the draw counter (rule R453). -/
theorem GameBoy.loadImage_reset (bytes : List Byte) (g : GameBoy) :
    { g.loadImage bytes with rom := [], romLen := 0, epoch := 0 } = State.reset.gb := by
  unfold GameBoy.loadImage GameBoy.resetLoaded
  rfl

/-- Settles O22: a long enough image is stored from offset 0, and the reset bank 1 maps its first 32 KiB directly. -/
theorem loadRomMapsTheImage : Obligations.LoadRomMapsTheImage := by
  intro s bytes
  have himage (k : Nat) (h : k < bytes.length) : (s.gb.loadImage bytes).imageByte k = bytes[k] :=
    (Memory.read_ofBytes romInit bytes 0 k).trans (dif_pos ⟨Nat.zero_le k, h⟩)
  refine ⟨fun h => if_pos h, fun h => ⟨s.gb.loadImage bytes, if_neg (Nat.not_lt.mpr h), GameBoy.loadImage_reset bytes s.gb, rfl,
    rfl, himage, ?_⟩⟩
  intro slot addr hlen ha
  rw [GameBoy.memRead_rom_of_bank1 rfl ha hlen, himage]

/-! ## The CHIP-8 machine -/

/-- The image of a loaded machine is at 0x200 (rule R344). -/
theorem Chip8.load_ofImage_image {bytes : List Byte} (hlen : bytes.length ≤ 3584) {k : Nat} (h : k < bytes.length) :
    (Chip8.ofImage bytes).load (BitVec.ofNat 12 (0x200 + k)) = bytes[k] := by
  have ha : (BitVec.ofNat 12 (0x200 + k)).toNat = 0x200 + k := Nat.mod_eq_of_lt (by omega)
  have hread := Memory.read_ofBytes ch8Init bytes 0x200 (0x200 + k)
  simp only [Nat.le_add_right, Nat.add_sub_cancel_left, h, and_self, dif_pos] at hread
  unfold Chip8.load
  rw [ha]
  exact hread

/-- Outside its image a loaded machine holds the reset contents (rule R50). -/
theorem Chip8.load_ofImage_other {bytes : List Byte} {a : Addr12}
    (h : ¬ (0x200 ≤ a.toNat ∧ a.toNat < 0x200 + bytes.length)) : (Chip8.ofImage bytes).load a = ch8Init a.toNat :=
  (Memory.read_ofBytes ch8Init bytes 0x200 a.toNat).trans (dif_neg (by omega))

/-- The font of a loaded machine is at 0x050 (rules R50, R339). -/
theorem Chip8.load_ofImage_font (bytes : List Byte) {k : Nat} (h : k < 80) :
    (Chip8.ofImage bytes).load (BitVec.ofNat 12 (0x050 + k)) = fontBytes.getD k 0 := by
  have ha : (BitVec.ofNat 12 (0x050 + k)).toNat = 0x050 + k := Nat.mod_eq_of_lt (by omega)
  have hk : 0x050 + k - 0x050 = k := by omega
  rw [Chip8.load_ofImage_other (by omega), ch8Init, ha, if_pos (by omega), hk]

/-- Every other byte of a loaded machine is 0 (rule R50). -/
theorem Chip8.load_ofImage_zero {bytes : List Byte} {a : Addr12} (hfont : ¬ (0x050 ≤ a.toNat ∧ a.toNat < 0x0A0))
    (himage : ¬ (0x200 ≤ a.toNat ∧ a.toNat < 0x200 + bytes.length)) : (Chip8.ofImage bytes).load a = 0x00 := by
  rw [Chip8.load_ofImage_other himage, ch8Init, if_neg hfont]

/-- The registers, the stack, the display and the keys of a loaded machine are 0 (rule R50). -/
theorem Chip8.ofImage_cleared (bytes : List Byte) :
    (∀ x, (Chip8.ofImage bytes).reg x = 0) ∧ (∀ k : Fin 16, (Chip8.ofImage bytes).stack[k] = 0) ∧
      (∀ px py, (Chip8.ofImage bytes).pixel px py = false) ∧ ∀ k, (Chip8.ofImage bytes).key k = false := by
  refine ⟨fun x => Vector.getElem_replicate _, fun k => Vector.getElem_replicate _, fun px py => ?_,
    fun k => Vector.getElem_replicate _⟩
  unfold Chip8.pixel
  split
  · simp [Chip8.ofImage, Chip8.initial]
  · rfl

/-- Settles O23: a load gives `Chip8.ofImage` with the two counts kept, and a reset gives it again. -/
theorem chip8LoadAndReset : Obligations.Chip8LoadAndReset := by
  intro s bytes
  refine ⟨fun h => if_pos h, fun h => ⟨s.ch8.keepStreams (Chip8.ofImage bytes), if_neg (Nat.not_lt.mpr h), ?_⟩⟩
  obtain ⟨hreg, hstack, hpixel, hkey⟩ := Chip8.ofImage_cleared bytes
  refine ⟨fun k hk => Chip8.load_ofImage_image h hk, fun k hk => Chip8.load_ofImage_font bytes hk,
    fun a hfont himage => Chip8.load_ofImage_zero hfont himage, hreg, rfl, rfl, rfl, hstack, rfl, rfl, hpixel, hkey, rfl, rfl,
    fun t ht => ?_⟩
  subst ht
  rfl

end Sys2Proof.Machine
end

section
/-! SUPPORT. Proofs: a step runs the decoded instruction (O8). -/

namespace Sys2Proof

/-! ## The fetch and the decoder take the same bytes -/

@[simp] theorem encode_ldRR_length (dst src : R8) : (encode (Instr.ldRR dst src)).length = 1 := by cases dst <;> cases src <;> rfl
@[simp] theorem encode_ldRN_length (dst : R8) (n : Byte) : (encode (Instr.ldRN dst n)).length = 2 := by cases dst <;> rfl
@[simp] theorem encode_ldRHL_length (dst : R8) : (encode (Instr.ldRHL dst)).length = 1 := by cases dst <;> rfl
@[simp] theorem encode_ldHLR_length (src : R8) : (encode (Instr.ldHLR src)).length = 1 := by cases src <;> rfl
@[simp] theorem encode_ldRRnn_length (p : R16) (nn : Word) : (encode (Instr.ldRRnn p nn)).length = 3 := by cases p <;> rfl
@[simp] theorem encode_addHLrr_length (p : R16) : (encode (Instr.addHLrr p)).length = 1 := by cases p <;> rfl
@[simp] theorem encode_incRR_length (p : R16) : (encode (Instr.incRR p)).length = 1 := by cases p <;> rfl
@[simp] theorem encode_decRR_length (p : R16) : (encode (Instr.decRR p)).length = 1 := by cases p <;> rfl
@[simp] theorem encode_pushRR_length (p : R16Stk) : (encode (Instr.pushRR p)).length = 1 := by cases p <;> rfl
@[simp] theorem encode_popRR_length (p : R16Stk) : (encode (Instr.popRR p)).length = 1 := by cases p <;> rfl
@[simp] theorem encode_jrCC_length (cc : Cond) (e : Byte) : (encode (Instr.jrCC cc e)).length = 2 := by cases cc <;> rfl
@[simp] theorem encode_jpCC_length (cc : Cond) (nn : Word) : (encode (Instr.jpCC cc nn)).length = 3 := by cases cc <;> rfl
@[simp] theorem encode_callCC_length (cc : Cond) (nn : Word) : (encode (Instr.callCC cc nn)).length = 3 := by cases cc <;> rfl
@[simp] theorem encode_retCC_length (cc : Cond) : (encode (Instr.retCC cc)).length = 1 := by cases cc <;> rfl
@[simp] theorem encode_rstT_length (t : Fin 8) : (encode (Instr.rstT t)).length = 1 := by revert t; decide
@[simp] theorem encode_aluImm_length (op : AluOp) (n : Byte) : (encode (Instr.aluImm op n)).length = 2 := by cases op <;> rfl
@[simp] theorem encode_incOp_length (x : Operand) : (encode (Instr.incOp x)).length = 1 := by unfold Instr.incOp; split <;> rfl
@[simp] theorem encode_decOp_length (x : Operand) : (encode (Instr.decOp x)).length = 1 := by unfold Instr.decOp; split <;> rfl
@[simp] theorem encode_aluOp_length (op : AluOp) (x : Operand) : (encode (Instr.aluOp op x)).length = 1 := by
  unfold Instr.aluOp; split <;> rfl

/-- A CB-page instruction is two bytes (rule R101). -/
@[simp] theorem encode_cbInstr_length (op2 : Byte) : (encode (cbInstr op2)).length = 2 := by
  revert op2
  decide

/-- How many bytes an instruction of a page entry takes (rule R101). -/
def PageEntry.bytes : PageEntry → Nat
  | .op _ => 1
  | .opN _ => 2
  | .opE _ => 2
  | .opNN _ => 3
  | .cb => 2

section
variable (op b1 b2 : Byte)

theorem primaryBlock0_length : (encode ((primaryBlock0 op).instr b1 b2)).length = (primaryBlock0 op).bytes := by
  unfold primaryBlock0
  repeat' split
  any_goals rfl
  all_goals simp [PageEntry.instr, PageEntry.bytes]

theorem primaryBlock1_length : (encode ((primaryBlock1 op).instr b1 b2)).length = (primaryBlock1 op).bytes := by
  unfold primaryBlock1
  split
  any_goals rfl
  all_goals simp [PageEntry.instr, PageEntry.bytes]

theorem primaryBlock3_length : (encode ((primaryBlock3 op).instr b1 b2)).length = (primaryBlock3 op).bytes := by
  unfold primaryBlock3
  split
  any_goals rfl
  all_goals simp [PageEntry.instr, PageEntry.bytes]

/-- The instruction of a first byte is as long as its encoding (rules R100, R101). -/
theorem primaryEntry_length : (encode ((primaryEntry op).instr b1 b2)).length = (primaryEntry op).bytes := by
  unfold primaryEntry
  split
  · exact primaryBlock0_length op b1 b2
  · exact primaryBlock1_length op b1 b2
  · exact encode_aluOp_length _ _
  · exact primaryBlock3_length op b1 b2

end

namespace Machine

theorem instrOfBytes_length (b0 b1 b2 : Byte) : (instrOfBytes b0 b1 b2).2 = (primaryEntry b0).bytes := by
  unfold instrOfBytes
  cases primaryEntry b0 <;> rfl

/-- The decoder reads from three bytes the instruction that the fetch takes from them. -/
theorem decode_three_bytes {b0 b1 b2 : Byte} {i : Instr} {rest : List Byte}
    (h : decode .gameBoy [b0, b1, b2] = .ok (i, rest)) : instrOfBytes b0 b1 b2 = (i, (encode i).length) := by
  have hi : (instrOfBytes b0 b1 b2).1 = i := by
    unfold decode decodeGb at h
    unfold instrOfBytes
    simp only at h
    cases he : primaryEntry b0 <;> rw [he] at h <;> cases h <;> rfl
  refine Prod.ext hi ?_
  rw [instrOfBytes_length, ← hi, instrOfBytes_instr, primaryEntry_length]

/-- An awake CPU that takes no interrupt runs the instruction at `PC` (rule R401). -/
theorem cpuStep_awake {s : State} (hw : s.gb.halted = false) (hi : s.takesInterrupt = false) : cpuStep s = runInstr s := by
  have hv : ¬ (s.cfg.irqVectoring = .vblank ∧ s.gb.vblankPending = true) := by
    rintro ⟨hcfg, hp⟩
    simp only [GameBoy.vblankPending, Bool.and_eq_true] at hp
    rw [State.takesInterrupt, hcfg, hp.1, hp.2] at hi
    exact absurd hi (by decide)
  simp only [cpuStep, hw, interruptOrInstr, hv, if_false, Bool.false_eq_true]

/-- The start of a Game Boy turn touches the frame signal and the recorded error alone (rule R431). -/
theorem gbTurnStart_eq (s : State) :
    ∃ frame error, gbTurnStart s = { s with gb := { s.gb with frameReady := frame }, hostError := error } := by
  unfold gbTurnStart
  split
  · exact ⟨_, _, rfl⟩
  · exact ⟨s.gb.frameReady, s.hostError, rfl⟩

/-- A Game Boy turn with an image loaded is the CPU step between its start and its end (rule R430). -/
theorem step_of_gbTurn {s : State} (h : s.turnOf .gameBoy) (hrom : s.gb.romLen ≠ 0) :
    step s = onNext (cpuStep (gbTurnStart s)) gbTurnEnd := by
  obtain ⟨hstep, hactive, hstop⟩ := step_of_turnOf s _ h
  rw [hstep, machineTurn, hactive]
  simp only [gbTurn, hrom, hstop, if_false, Bool.false_eq_true]

/-- In an awake CPU that no interrupt reaches, the CPU step of a turn runs the decoded instruction with `PC` past it (rule R103). -/
theorem cpuStep_gbTurnStart {s : State} {i : Instr} (hw : s.gb.halted = false) (hi : s.takesInterrupt = false)
    (hf : s.gb.fetchInstr = (i, (encode i).length)) :
    cpuStep (gbTurnStart s) = exec i { gbTurnStart s with gb := { (gbTurnStart s).gb with
      pc := s.gb.pc + BitVec.ofNat 16 (encode i).length } } := by
  obtain ⟨frame, error, he⟩ := gbTurnStart_eq s
  rw [he, cpuStep_awake (by exact hw) (by exact hi), runInstr]
  have hfetch : GameBoy.fetchInstr { s.gb with frameReady := frame } = (i, (encode i).length) := hf
  simp only [hfetch]
  rfl

/-- The decoder of the CHIP-8 machine takes the big-endian word (rule R300). -/
theorem decode_ch8_word {hi lo : Byte} {i : Instr} {rest : List Byte} (h : decode .chip8 [hi, lo] = .ok (i, rest)) :
    decodeCh8 (joinBytes hi lo) = .ok i := by
  unfold decode decodeCh8Bytes at h
  simp only at h
  cases hd : decodeCh8 (joinBytes hi lo) with
  | error e => rw [hd] at h; cases h
  | ok j => rw [hd] at h; cases h; rfl

/-- A CHIP-8 turn inside the batch runs the decoded word with `pc` two further (rules R300, R302). -/
theorem step_of_ch8Turn {s : State} {i : Instr} (h : s.turnOf .chip8) (hb : s.tickSteps < s.cfg.ch8Batch)
    (hw : s.ch8.waitingForKey = false) (hd : decodeCh8 s.ch8.fetchWord = .ok i) :
    step s = onNext (exec i { ch8TurnStart s with ch8 := s.ch8.advance }) ch8TickStep := by
  obtain ⟨hstep, hactive, hstop⟩ := step_of_turnOf s _ h
  have hch8 : (ch8TurnStart s).ch8 = s.ch8 := by
    unfold ch8TurnStart
    split <;> rfl
  rw [hstep, machineTurn, hactive]
  simp only [ch8Turn, hstop, hb, if_true, if_false, Bool.false_eq_true, ch8Step, hch8, hw, hd]

/-- Settles O8: the scheduler's turn is the machine's, and the fetch takes the instruction that the decoder reads. -/
theorem stepRunsDecodedInstruction : Obligations.StepRunsDecodedInstruction := by
  refine ⟨fun s i rest ht hrom hw hi hd => ?_, fun s ht hrom => step_of_gbTurn ht hrom, fun s i rest ht hb hw hd => ?_,
    fun s => ⟨rfl, fun h => if_pos h, fun h => if_neg h⟩⟩
  · rw [step_of_gbTurn ht hrom, cpuStep_gbTurnStart hw hi (decode_three_bytes hd)]
  · exact step_of_ch8Turn ht hb hw (decode_ch8_word hd)

end Machine
end Sys2Proof
end

section
/-! SUPPORT. Proofs: the Game Boy memory map, reads and writes by range, the latches, the echo and the OAM copy (O27 to O31). -/

namespace Sys2Proof.Machine

/-! ## Reads by range -/

section
variable (g : GameBoy) (slot : ReadSlot) {addr : Word}

/-- Bank 0 of the image is read at the address itself (rule R63). -/
theorem GameBoy.memRead_bank0 (h : addr.toNat < 0x4000) : g.memRead slot addr = g.romByte slot addr.toNat := by
  unfold GameBoy.memRead
  by_cases hlow : addr.toNat < 0x2000
  · have hr : regionOf addr = .ramGate := regionOf_eq_iff.mpr hlow
    rw [hr]
  · have hr : regionOf addr = .bankSelect := regionOf_eq_iff.mpr ⟨Nat.le_of_not_lt hlow, h⟩
    rw [hr]

theorem GameBoy.memRead_romWindow (h : regionOf addr = .romWindow) :
    g.memRead slot addr = g.romByte slot (g.romBank.toNat * 0x4000 + (addr.toNat - 0x4000)) := by
  unfold GameBoy.memRead
  rw [h]

theorem GameBoy.memRead_eram (h : regionOf addr = .eram) :
    g.memRead slot addr = if g.ramEnabled then g.cell addr.toNat else 0xFF := by
  unfold GameBoy.memRead
  rw [h]

theorem GameBoy.memRead_unusable (h : regionOf addr = .unusable) : g.memRead slot addr = 0xFF := by
  unfold GameBoy.memRead
  rw [h]

/-- Plain storage, as numbers: `vram`, then `wram` to `oam`, then everything past the joypad port (rules R61, R62). -/
theorem plainStorage_iff : plainStorage addr = true ↔
    0x8000 ≤ addr.toNat ∧ addr.toNat < 0xA000 ∨ 0xC000 ≤ addr.toNat ∧ addr.toNat < 0xFEA0 ∨ 0xFF00 < addr.toNat := by
  have hb := regionOf_bounds addr
  unfold plainStorage
  cases hr : regionOf addr <;> rw [hr] at hb <;>
    simp only [regionBounds, reduceCtorEq, false_iff, true_iff] at hb ⊢ <;> omega

/-- Plain storage outside the echo range is read at the address itself. -/
theorem GameBoy.memRead_own_cell (h : plainStorage addr = true) (he : regionOf addr ≠ .echo) :
    g.memRead slot addr = g.cell addr.toNat := by
  rw [GameBoy.memRead_plain g slot h, storageAddr_eq he]

end

theorem regionOf_ne_echo {addr : Word} (h : addr.toNat < 0xE000 ∨ 0xFE00 ≤ addr.toNat) : regionOf addr ≠ .echo :=
  regionOf_eq_iff.not.mpr fun hb => by simp only [regionBounds] at hb; omega

/-- The echo range is kept 0x2000 lower (rule R71). -/
theorem storageAddr_echo {addr : Word} (h : regionOf addr = .echo) : storageAddr addr = addr.toNat - 0x2000 := by
  unfold storageAddr
  rw [h]

/-- Settles O27: the read rule of each range, with the ranges as numbers. -/
theorem readByAddressRange : Obligations.ReadByAddressRange := by
  intro g slot addr
  have hcell (hp : 0x8000 ≤ addr.toNat ∧ addr.toNat < 0xA000 ∨ 0xC000 ≤ addr.toNat ∧ addr.toNat < 0xFEA0 ∨ 0xFF00 < addr.toNat)
      (he : addr.toNat < 0xE000 ∨ 0xFE00 ≤ addr.toNat) : g.memRead slot addr = g.cell addr.toNat :=
    g.memRead_own_cell slot (plainStorage_iff.mpr hp) (regionOf_ne_echo he)
  refine ⟨fun h hlen => ?_, fun h h' hlen => ?_, fun h h' => hcell (by omega) (by omega), fun h h' => ?_,
    fun h h' => hcell (by omega) (by omega), fun h h' => ?_, fun h h' => hcell (by omega) (by omega), fun h h' => ?_,
    fun h => hcell (by omega) (by omega)⟩
  · rw [g.memRead_bank0 slot h, GameBoy.romByte_of_lt hlen]
  · rw [g.memRead_romWindow slot (regionOf_eq_iff.mpr ⟨h, h'⟩), GameBoy.romByte_of_lt hlen]
  · exact g.memRead_eram slot (regionOf_eq_iff.mpr ⟨h, h'⟩)
  · rw [g.memRead_plain slot (plainStorage_iff.mpr (by omega)), storageAddr_echo (regionOf_eq_iff.mpr ⟨h, h'⟩)]
  · exact g.memRead_unusable slot (regionOf_eq_iff.mpr ⟨h, h'⟩)

/-! ## Writes by range -/

section
variable (g : GameBoy) (v : Byte) {addr : Word}

theorem GameBoy.memWrite_ramGate (h : regionOf addr = .ramGate) :
    g.memWrite addr v = { g with ramEnabled := v &&& 0x0F == 0x0A } := by
  unfold GameBoy.memWrite
  rw [h]

theorem GameBoy.memWrite_bankSelect (h : regionOf addr = .bankSelect) : g.memWrite addr v = { g with romBank := bankOf v } := by
  unfold GameBoy.memWrite
  rw [h]

/-- A write to the switchable window is dropped (rule R68, decision D10). -/
theorem GameBoy.memWrite_romWindow (h : regionOf addr = .romWindow) : g.memWrite addr v = g := by
  unfold GameBoy.memWrite
  rw [h]

theorem GameBoy.memWrite_eram (h : regionOf addr = .eram) :
    g.memWrite addr v = if g.ramEnabled then g.setCell addr.toNat v else g := by
  unfold GameBoy.memWrite
  rw [h]

theorem GameBoy.memWrite_unusable (h : regionOf addr = .unusable) : g.memWrite addr v = g := by
  unfold GameBoy.memWrite
  rw [h]

/-- A write to the DMA register is kept, then the copy runs (rule R75). -/
theorem GameBoy.memWrite_dma (h : regionOf addr = .dma) : g.memWrite addr v = (g.setCell 0xFF46 v).oamDma v := by
  unfold GameBoy.memWrite
  rw [h]

end

/-- A stored cell holds what was stored. -/
theorem GameBoy.cell_setCell_same {g : GameBoy} (hw : Memory.wf busInit g.mem = true) (k : Nat) (v : Byte) :
    (g.setCell k v).cell k = v :=
  (GameBoy.cell_setCell hw k k v).trans (if_pos rfl)

/-- The DMA register holds the byte that started the copy: the copy stores in `oam` alone. -/
theorem GameBoy.cell_memWrite_dma {g : GameBoy} (hw : Memory.wf busInit g.mem = true) {addr : Word} (h : regionOf addr = .dma)
    (v : Byte) : (g.memWrite addr v).cell 0xFF46 = v := by
  rw [g.memWrite_dma v h, GameBoy.cell_oamDma_other (GameBoy.wf_setCell hw _ _) v (.inr (by decide)),
    GameBoy.cell_setCell_same hw]

/-- Plain storage reads back what was written, the DMA register among it. -/
theorem GameBoy.memRead_memWrite_plain {g : GameBoy} (hw : Memory.wf busInit g.mem = true) {addr : Word}
    (h : plainStorage addr = true) (v : Byte) (slot : ReadSlot) : (g.memWrite addr v).memRead slot addr = v := by
  rw [GameBoy.memRead_plain _ slot h]
  by_cases hd : regionOf addr = .dma
  · have ha : addr.toNat = 0xFF46 := regionOf_eq_iff.mp hd
    rw [storageAddr_eq (by simp [hd]), ha, GameBoy.cell_memWrite_dma hw hd]
  · rw [g.memWrite_plain v h hd, GameBoy.cell_setCell_same hw]

/-- Open `eram` reads back what was written (rule R70). -/
theorem GameBoy.memRead_memWrite_eram {g : GameBoy} (hw : Memory.wf busInit g.mem = true) {addr : Word}
    (h : regionOf addr = .eram) (ho : g.ramEnabled = true) (v : Byte) (slot : ReadSlot) :
    (g.memWrite addr v).memRead slot addr = v := by
  rw [g.memWrite_eram v h, if_pos ho, GameBoy.memRead_eram _ slot h, GameBoy.setCell_ramEnabled, if_pos ho,
    GameBoy.cell_setCell_same hw]

/-- Settles O28: what a write reads back as, the frame of its reads, and that it changes only `mem` and the two latches. -/
theorem writtenBytesReadBackAndFrame : Obligations.WrittenBytesReadBackAndFrame :=
  ⟨fun _ _ v slot hw => ⟨fun h => GameBoy.memRead_memWrite_plain hw h v slot,
      fun h ho => GameBoy.memRead_memWrite_eram hw h ho v slot⟩,
    fun g addr v => ⟨fun hw slot _ h => GameBoy.memRead_memWrite_of_untouched hw h v slot,
      GameBoy.memWrite_keeps (fun d => { d with mem := g.mem, romBank := g.romBank, ramEnabled := g.ramEnabled })
        (fun _ _ _ _ => rfl) g addr v⟩,
    fun g _ v h h' => g.memWrite_romWindow v (regionOf_eq_iff.mpr ⟨h, h'⟩)⟩

/-! ## The latches -/

/-- The enabling value is told by the low nibble alone (rule R66). -/
theorem ramEnableValue_eq (v : Byte) : (v &&& 0x0F == 0x0A) = decide (v.toNat % 16 = 0xA) := by
  have hlow : (v &&& 0x0F).toNat = v.toNat % 16 := Nat.and_two_pow_sub_one_eq_mod v.toNat 4
  rw [← hlow, beq_eq_decide]
  exact decide_eq_decide.mpr BitVec.toNat_inj.symm

/-- The bank of a select write: the low five bits, with 0 taken as 1 (rule R67). -/
theorem bankOf_eq (v : Byte) : bankOf v = if v.toNat % 32 = 0 then 1 else BitVec.ofNat 5 v.toNat := by
  have hzero : v.setWidth 5 = 0 ↔ v.toNat % 32 = 0 := by
    rw [← BitVec.toNat_inj, BitVec.toNat_setWidth]
    rfl
  unfold bankOf
  simp only [hzero]
  rfl

/-- Closing the gate and opening it again leaves it open and changes nothing else (rules R66, R70). -/
theorem GameBoy.memWrite_close_open (g : GameBoy) :
    (g.memWrite 0x0000 0x00).memWrite 0x0000 0x0A = { g with ramEnabled := true } := rfl

/-- Settles O29: the write rules of the latches and of the unusable range, and the gate of `eram`. -/
theorem bankLatchesAndRamGate : Obligations.BankLatchesAndRamGate := by
  refine ⟨fun g addr v => ⟨fun h => ?_, fun h h' => ?_, fun h h' => ?_⟩, fun g addr v slot h h' => ?_⟩
  · rw [g.memWrite_ramGate v (regionOf_eq_iff.mpr h), ramEnableValue_eq]
  · have hbank : (bankOf v).toNat ≠ 0 := fun e => bankOf_ne_zero v (BitVec.eq_of_toNat_eq e)
    rw [g.memWrite_bankSelect v (regionOf_eq_iff.mpr ⟨h, h'⟩), ← bankOf_eq]
    exact ⟨rfl, Nat.pos_of_ne_zero hbank⟩
  · have hr : regionOf addr = .unusable := regionOf_eq_iff.mpr ⟨h, h'⟩
    exact ⟨fun slot => g.memRead_unusable slot hr, g.memWrite_unusable v hr⟩
  · have hr : regionOf addr = .eram := regionOf_eq_iff.mpr ⟨h, h'⟩
    rw [g.memWrite_close_open, g.memRead_eram slot hr, GameBoy.memRead_eram _ slot hr, g.memWrite_eram v hr]
    exact ⟨fun hc => by simp [hc], fun ho => by rw [if_pos ho, if_pos ho]; exact ⟨rfl, rfl, rfl⟩⟩

/-! ## The echo range -/

/-- Two plain addresses kept in the same place read and write the same. -/
theorem GameBoy.access_eq_of_storageAddr (g : GameBoy) {a b : Word} (ha : plainStorage a = true) (hb : plainStorage b = true)
    (hda : regionOf a ≠ .dma) (hdb : regionOf b ≠ .dma) (h : storageAddr a = storageAddr b) (v : Byte) (slot : ReadSlot) :
    g.memRead slot a = g.memRead slot b ∧ g.memWrite a v = g.memWrite b v := by
  rw [g.memRead_plain slot ha, g.memRead_plain slot hb, g.memWrite_plain v ha hda, g.memWrite_plain v hb hdb, h]
  exact ⟨rfl, rfl⟩

/-- A write to the last 512 bytes of `wram`, which the echo range does not reach, touches no read but at its own address. -/
theorem mayTouch_wramTail {addr b : Word} (h : 0xDE00 ≤ addr.toNat) (h' : addr.toNat < 0xE000) (hne : b ≠ addr) :
    mayTouch addr b = false := by
  have hr : regionOf addr = .wram := regionOf_eq_iff.mpr ⟨by omega, h'⟩
  have hb : b.toNat ≠ addr.toNat := fun e => hne (BitVec.eq_of_toNat_eq e)
  have hc := storageAddr_cases b
  have hs : storageAddr b ≠ addr.toNat := by omega
  simpa [mayTouch, hr, storageAddr_eq (a := addr) (by simp [hr])] using hs

/-- Settles O30: `wram` is kept at its own addresses, and its echo in the same place. -/
theorem echoIsWorkRam : Obligations.EchoIsWorkRam := by
  refine fun g addr v slot => ⟨fun h h' => ?_, fun h h' => ?_,
    fun h h' hw b hne => GameBoy.memRead_memWrite_of_untouched hw (mayTouch_wramTail h h' hne) v slot⟩
  · have hr : regionOf addr = .wram := regionOf_eq_iff.mpr ⟨h, h'⟩
    have hp : plainStorage addr = true := plainStorage_iff.mpr (by omega)
    have hs : storageAddr addr = addr.toNat := storageAddr_eq (by simp [hr])
    rw [g.memRead_plain slot hp, g.memWrite_plain v hp (by simp [hr]), hs]
    exact ⟨rfl, rfl⟩
  · have hr : regionOf addr = .echo := regionOf_eq_iff.mpr ⟨h, h'⟩
    have hlow : (addr - 0x2000).toNat = addr.toNat - 0x2000 :=
      BitVec.toNat_sub_of_le (by rw [BitVec.le_def]; exact Nat.le_trans (by decide) h)
    have hr' : regionOf (addr - 0x2000) = .wram := regionOf_eq_iff.mpr (by simp only [regionBounds]; omega)
    refine g.access_eq_of_storageAddr (plainStorage_iff.mpr (by omega)) (plainStorage_iff.mpr (by omega)) (by simp [hr])
      (hr'.trans_ne (by decide)) ?_ v slot
    rw [storageAddr_echo hr, storageAddr_eq (hr'.trans_ne (by decide)), hlow]

/-! ## The OAM copy -/

/-- The copy after its first `n` bytes. -/
def GameBoy.dmaSteps (v : Byte) (n : Nat) (g : GameBoy) : GameBoy :=
  (List.range n).foldl (GameBoy.dmaByte (v.toNat * 0x100)) g

/-- The source address of the copy's `k`-th byte (rule R75). -/
def dmaSource (v : Byte) (k : Nat) : Word := BitVec.ofNat 16 (v.toNat * 0x100 + k)

theorem GameBoy.oamDma_eq_dmaSteps (g : GameBoy) (v : Byte) : g.oamDma v = g.dmaSteps v 160 := rfl

theorem GameBoy.dmaSteps_succ (g : GameBoy) (v : Byte) (n : Nat) : g.dmaSteps v (n + 1) =
    (g.dmaSteps v n).setCell (0xFE00 + n) ((g.dmaSteps v n).memRead (.dma n) (dmaSource v n)) := by
  unfold GameBoy.dmaSteps
  rw [List.range_succ, List.foldl_append]
  rfl

/-- A started copy changes `mem` alone, and keeps it canonical. -/
theorem GameBoy.dmaSteps_mem {g : GameBoy} (hw : Memory.wf busInit g.mem = true) (v : Byte) (n : Nat) :
    ∃ m, g.dmaSteps v n = { g with mem := m } ∧ Memory.wf busInit m = true := by
  induction n with
  | zero => exact ⟨g.mem, rfl, hw⟩
  | succ n ih =>
    obtain ⟨m, he, hm⟩ := ih
    rw [GameBoy.dmaSteps_succ, he]
    exact ⟨_, rfl, Memory.wf_write hm⟩

/-- The source of the `n`-th byte is not among the `oam` bytes written before it: the page of `oam` is copied onto itself, byte by
byte, and no other page shows them. -/
theorem storageAddr_dmaSource (v : Byte) {n : Nat} (hn : n < 160) :
    ¬ (0xFE00 ≤ storageAddr (dmaSource v n) ∧ storageAddr (dmaSource v n) < 0xFE00 + n) := by
  have hv := v.isLt
  have hs : (dmaSource v n).toNat = v.toNat * 0x100 + n := by
    rw [dmaSource, BitVec.toNat_ofNat, Nat.mod_eq_of_lt (by omega)]
  have hc := storageAddr_cases (dmaSource v n)
  omega

/-- What the cells hold after the copy's first `n` bytes: each copied byte is what its source read as before the copy began. -/
theorem GameBoy.cell_dmaSteps {g : GameBoy} (hw : Memory.wf busInit g.mem = true) (v : Byte) {n : Nat} (hn : n ≤ 160) (j : Nat) :
    (g.dmaSteps v n).cell j = if 0xFE00 ≤ j ∧ j < 0xFE00 + n then
      g.memRead (.dma (j - 0xFE00)) (dmaSource v (j - 0xFE00)) else g.cell j := by
  induction n generalizing j with
  | zero => exact (if_neg (by omega)).symm
  | succ n ih =>
    have ih := ih (by omega)
    obtain ⟨m, he, hm⟩ := GameBoy.dmaSteps_mem hw v n
    have hread : (g.dmaSteps v n).memRead (.dma n) (dmaSource v n) = g.memRead (.dma n) (dmaSource v n) := by
      have hsource := (ih _).trans (if_neg (storageAddr_dmaSource v hn))
      rw [he] at hsource ⊢
      exact GameBoy.memRead_congr_at (g := g) (g' := { g with mem := m }) rfl rfl (fun _ => rfl) (fun _ => rfl)
        (fun _ => hsource) _
    rw [GameBoy.dmaSteps_succ, hread, GameBoy.cell_setCell (by rw [he]; exact hm), ih]
    by_cases hj : j = 0xFE00 + n
    · subst hj
      rw [if_pos rfl, if_pos (by omega), Nat.add_sub_cancel_left]
    · rw [if_neg hj]
      exact if_congr (by omega) rfl rfl

/-- A byte of `oam` after the copy is what its source read as before the copy began (rule R75, decision D12). -/
theorem GameBoy.cell_oamDma {g : GameBoy} (hw : Memory.wf busInit g.mem = true) (v : Byte) {k : Nat} (hk : k < 160) :
    (g.oamDma v).cell (0xFE00 + k) = g.memRead (.dma k) (dmaSource v k) := by
  rw [GameBoy.oamDma_eq_dmaSteps, GameBoy.cell_dmaSteps hw v (Nat.le_refl 160), if_pos (by omega), Nat.add_sub_cancel_left]

/-- A read of the `k`-th byte of `oam` is its cell. -/
theorem GameBoy.memRead_oam (g : GameBoy) (slot : ReadSlot) {k : Nat} (hk : k < 160) :
    g.memRead slot (BitVec.ofNat 16 (0xFE00 + k)) = g.cell (0xFE00 + k) := by
  have ha : (BitVec.ofNat 16 (0xFE00 + k)).toNat = 0xFE00 + k := by
    rw [BitVec.toNat_ofNat, Nat.mod_eq_of_lt (by omega)]
  rw [g.memRead_own_cell slot (plainStorage_iff.mpr (by omega)) (regionOf_ne_echo (by omega)), ha]

/-- Settles O31: the written byte is kept, the copy is read off its loop, and a write to the register touches nothing else. -/
theorem oamDmaCopies : Obligations.OamDmaCopies := by
  have hr : regionOf 0xFF46 = .dma := by decide
  refine fun g v slot hw => ⟨GameBoy.cell_memWrite_dma hw hr v, fun k hk => ?_, fun b hb ho => ?_⟩
  · rw [GameBoy.memRead_oam _ slot hk, g.memWrite_dma v hr, GameBoy.cell_oamDma (GameBoy.wf_setCell hw _ _) v hk]
    rfl
  · refine GameBoy.memRead_memWrite_of_untouched hw ?_ v slot
    simp only [mayTouch, hr, Bool.or_eq_false_iff, beq_eq_false_iff_ne]
    exact ⟨hb, ho⟩

end Sys2Proof.Machine
end

section
/-! SUPPORT. Proofs: each family's bytes are made of its operand codes (O4). -/

namespace Sys2Proof

/-! ## The bytes of a family (rules R104 to R111) -/

@[simp] theorem encode_ldRR (dst src : R8) : encode (Instr.ldRR dst src) = [BitVec.ofNat 8 (0x40 + 8 * dst.code + src.code)] := by
  cases dst <;> cases src <;> rfl

@[simp] theorem encode_ldRN (dst : R8) (n : Byte) : encode (Instr.ldRN dst n) = [BitVec.ofNat 8 (0x06 + 8 * dst.code), n] := by
  cases dst <;> rfl

@[simp] theorem encode_ldRHL (dst : R8) : encode (Instr.ldRHL dst) = [BitVec.ofNat 8 (0x46 + 8 * dst.code)] := by
  cases dst <;> rfl

@[simp] theorem encode_ldHLR (src : R8) : encode (Instr.ldHLR src) = [BitVec.ofNat 8 (0x70 + src.code)] := by
  cases src <;> rfl

@[simp] theorem encode_ldRRnn (p : R16) (nn : Word) :
    encode (Instr.ldRRnn p nn) = [BitVec.ofNat 8 (0x01 + 16 * p.code), lowByte nn, highByte nn] := by cases p <;> rfl

@[simp] theorem encode_addHLrr (p : R16) : encode (Instr.addHLrr p) = [BitVec.ofNat 8 (0x09 + 16 * p.code)] := by
  cases p <;> rfl

@[simp] theorem encode_incRR (p : R16) : encode (Instr.incRR p) = [BitVec.ofNat 8 (0x03 + 16 * p.code)] := by
  cases p <;> rfl

@[simp] theorem encode_decRR (p : R16) : encode (Instr.decRR p) = [BitVec.ofNat 8 (0x0B + 16 * p.code)] := by
  cases p <;> rfl

@[simp] theorem encode_incOp (x : Operand) : encode (Instr.incOp x) = [BitVec.ofNat 8 (0x04 + 8 * x.code)] := by
  unfold Instr.incOp; split <;> rfl

@[simp] theorem encode_decOp (x : Operand) : encode (Instr.decOp x) = [BitVec.ofNat 8 (0x05 + 8 * x.code)] := by
  unfold Instr.decOp; split <;> rfl

@[simp] theorem encode_aluOp (op : AluOp) (x : Operand) :
    encode (Instr.aluOp op x) = [BitVec.ofNat 8 (0x80 + 8 * op.code + x.code)] := by unfold Instr.aluOp; split <;> rfl

@[simp] theorem encode_aluImm (op : AluOp) (n : Byte) : encode (Instr.aluImm op n) = [BitVec.ofNat 8 (0xC6 + 8 * op.code), n] := by
  cases op <;> rfl

@[simp] theorem encode_pushRR (p : R16Stk) : encode (Instr.pushRR p) = [BitVec.ofNat 8 (0xC5 + 16 * p.code)] := by
  cases p <;> rfl

@[simp] theorem encode_popRR (p : R16Stk) : encode (Instr.popRR p) = [BitVec.ofNat 8 (0xC1 + 16 * p.code)] := by
  cases p <;> rfl

@[simp] theorem encode_jrCC (cc : Cond) (e : Byte) : encode (Instr.jrCC cc e) = [BitVec.ofNat 8 (0x20 + 8 * cc.code), e] := by
  cases cc <;> rfl

@[simp] theorem encode_jpCC (cc : Cond) (nn : Word) :
    encode (Instr.jpCC cc nn) = [BitVec.ofNat 8 (0xC2 + 8 * cc.code), lowByte nn, highByte nn] := by cases cc <;> rfl

@[simp] theorem encode_callCC (cc : Cond) (nn : Word) :
    encode (Instr.callCC cc nn) = [BitVec.ofNat 8 (0xC4 + 8 * cc.code), lowByte nn, highByte nn] := by cases cc <;> rfl

@[simp] theorem encode_retCC (cc : Cond) : encode (Instr.retCC cc) = [BitVec.ofNat 8 (0xC0 + 8 * cc.code)] := by
  cases cc <;> rfl

@[simp] theorem encode_rstT (t : Fin 8) : encode (Instr.rstT t) = [BitVec.ofNat 8 (0xC7 + 8 * t.val)] := by
  revert t; decide

@[simp] theorem encode_shiftOp (op : ShiftOp) (x : Operand) :
    encode (Instr.shiftOp op x) = [0xCB, BitVec.ofNat 8 (8 * op.code + x.code)] := by unfold Instr.shiftOp; split <;> rfl

@[simp] theorem encode_bitOp (b : Fin 8) (x : Operand) :
    encode (Instr.bitOp b x) = [0xCB, BitVec.ofNat 8 (0x40 + 8 * b.val + x.code)] := by
  revert b; rcases x with ⟨⟨⟩⟩ | ⟨⟩ <;> decide

@[simp] theorem encode_resOp (b : Fin 8) (x : Operand) :
    encode (Instr.resOp b x) = [0xCB, BitVec.ofNat 8 (0x80 + 8 * b.val + x.code)] := by
  revert b; rcases x with ⟨⟨⟩⟩ | ⟨⟩ <;> decide

@[simp] theorem encode_setOp (b : Fin 8) (x : Operand) :
    encode (Instr.setOp b x) = [0xCB, BitVec.ofNat 8 (0xC0 + 8 * b.val + x.code)] := by
  revert b; rcases x with ⟨⟨⟩⟩ | ⟨⟩ <;> decide

/-- Settles O4, family by family. -/
theorem encodingFieldPatterns : Obligations.EncodingFieldPatterns :=
  ⟨encode_ldRR, encode_ldRN, encode_ldRHL, encode_ldHLR, encode_ldRRnn, encode_addHLrr, encode_incRR, encode_decRR, encode_incOp,
    encode_decOp, encode_aluOp, encode_aluImm, encode_pushRR, encode_popRR, encode_jrCC, encode_jpCC, encode_callCC, encode_retCC,
    encode_rstT, encode_shiftOp, encode_bitOp, encode_resOp, encode_setOp⟩

end Sys2Proof
end

section
/-! SUPPORT. Proofs: the LR35902 decoder reads what the encoder writes. -/

namespace Sys2Proof

/-! ## A decoded operand has the code it was decoded from (rules R104 to R108, R111) -/

theorem Operand.code_ofCode {n : Nat} (h : n < 8) : (Operand.ofCode n).code = n := by
  interval_cases n <;> rfl

theorem R16.code_ofCode {n : Nat} (h : n < 4) : (R16.ofCode n).code = n := by
  interval_cases n <;> rfl

theorem R16Stk.code_ofCode {n : Nat} (h : n < 4) : (R16Stk.ofCode n).code = n := by
  interval_cases n <;> rfl

theorem Cond.code_ofCode {n : Nat} (h : n < 4) : (Cond.ofCode n).code = n := by
  interval_cases n <;> rfl

theorem AluOp.code_ofCode {n : Nat} (h : n < 8) : (AluOp.ofCode n).code = n := by
  interval_cases n <;> rfl

theorem ShiftOp.code_ofCode {n : Nat} (h : n < 8) : (ShiftOp.ofCode n).code = n := by
  interval_cases n <;> rfl

/-! ## The fields of an opcode byte (rule R102) -/

theorem fieldX_lt (op : Byte) : fieldX op < 4 := Nat.div_lt_of_lt_mul op.isLt
theorem fieldY_lt (op : Byte) : fieldY op < 8 := Nat.mod_lt _ (by decide)
theorem fieldZ_lt (op : Byte) : fieldZ op < 8 := Nat.mod_lt _ (by decide)
theorem fieldP_lt (op : Byte) : fieldP op < 4 := Nat.mod_lt _ (by decide)
theorem fieldQ_lt (op : Byte) : fieldQ op < 2 := Nat.mod_lt _ (by decide)

/-- Field `y` is the fields `p` and `q`. -/
theorem fieldY_eq (op : Byte) : fieldY op = 2 * fieldP op + fieldQ op := by
  simp only [fieldY, fieldP, fieldQ]; omega

/-- An opcode byte is its fields `x`, `y` and `z`. -/
theorem byte_of_fields (op : Byte) : BitVec.ofNat 8 (0x40 * fieldX op + 8 * fieldY op + fieldZ op) = op := by
  have := op.isLt
  apply BitVec.eq_of_toNat_eq
  simp only [fieldX, fieldY, fieldZ, BitVec.toNat_ofNat]
  omega

/-! ## The CB page -/

/-- The second byte of a CB-page instruction is the byte it was decoded from (rule R111). -/
theorem encode_cbInstr (op2 : Byte) : encode (cbInstr op2) = [0xCB, op2] := by
  have hx := fieldX_lt op2
  have hb := byte_of_fields op2
  have hy := fieldY_lt op2
  have hz := Operand.code_ofCode (fieldZ_lt op2)
  unfold cbInstr
  split
  case h_1 h => simpa [h, hz, ShiftOp.code_ofCode hy] using hb
  case h_2 h | h_3 h => simpa [h, hz, Nat.mod_eq_of_lt hy] using hb
  case h_4 =>
    have h : fieldX op2 = 3 := by grind
    simpa [h, hz, Nat.mod_eq_of_lt hy] using hb

/-! ## The primary page -/

/-- The first byte of an entry's instruction, as the number that its fields make. -/
theorem encode_of_opcode {e : PageEntry} {b1 b2 : Byte} (n : Nat) {m : Nat}
    (h : encode (e.instr b1 b2) = [BitVec.ofNat 8 n, b1, b2].take e.bytes) (hn : n = m) :
    encode (e.instr b1 b2) = [BitVec.ofNat 8 m, b1, b2].take e.bytes := hn ▸ h

/-- The same for an entry that takes a word, low byte first (rule R109). -/
theorem encode_of_opcode_nn {f : Word → Instr} {n m : Nat} {b1 b2 : Byte}
    (h : ∀ nn, encode (f nn) = [BitVec.ofNat 8 n, lowByte nn, highByte nn]) (hn : n = m) :
    encode ((PageEntry.opNN f).instr b1 b2) = [BitVec.ofNat 8 m, b1, b2].take (PageEntry.opNN f).bytes := by
  refine (h _).trans ?_
  rw [lowByte_joinBytes, highByte_joinBytes, hn]
  rfl

section
variable (op b1 b2 : Byte)

/-- Block `x = 0`: a family's arm by its codes, every other arm by its one byte. -/
theorem encode_primaryBlock0 : encode ((primaryBlock0 op).instr b1 b2) =
    [BitVec.ofNat 8 (8 * fieldY op + fieldZ op), b1, b2].take (primaryBlock0 op).bytes := by
  have hy := fieldY_lt op
  have hz := fieldZ_lt op
  have hpq := fieldY_eq op
  have hq := fieldQ_lt op
  have hp := R16.code_ofCode (fieldP_lt op)
  have hx := Operand.code_ofCode hy
  unfold primaryBlock0
  split
  case h_2 => -- LD (nn),SP
    exact encode_of_opcode_nn (n := 0x08) (fun _ => rfl) (by grind)
  case h_5 => -- JR cc,e
    exact encode_of_opcode _ (encode_jrCC _ _) (by rw [Cond.code_ofCode (by omega)]; grind)
  case h_6 => -- LD rr,nn and ADD HL,rr
    split
    · exact encode_of_opcode_nn (encode_ldRRnn _) (by omega)
    · exact encode_of_opcode _ (encode_addHLrr _) (by omega)
  case h_15 => -- INC rr and DEC rr
    split
    · exact encode_of_opcode _ (encode_incRR _) (by omega)
    · exact encode_of_opcode _ (encode_decRR _) (by omega)
  case h_16 => -- INC r and INC (HL)
    exact encode_of_opcode _ (encode_incOp _) (by omega)
  case h_17 => -- DEC r and DEC (HL)
    exact encode_of_opcode _ (encode_decOp _) (by omega)
  case h_18 => -- LD r,n and LD (HL),n
    generalize Operand.ofCode (fieldY op) = dst at hx ⊢
    match dst with
    | .reg _ => exact encode_of_opcode _ (encode_ldRN _ _) (by grind [Operand.code])
    | .atHL => exact encode_of_opcode 0x36 rfl (by grind [Operand.code])
  all_goals exact encode_of_opcode _ rfl (by grind)

/-- Block `x = 1`, by its two operands. -/
theorem encode_primaryBlock1 : encode ((primaryBlock1 op).instr b1 b2) =
    [BitVec.ofNat 8 (0x40 + 8 * fieldY op + fieldZ op), b1, b2].take (primaryBlock1 op).bytes := by
  have hy := Operand.code_ofCode (fieldY_lt op)
  have hz := Operand.code_ofCode (fieldZ_lt op)
  unfold primaryBlock1
  generalize Operand.ofCode (fieldY op) = dst at hy ⊢
  generalize Operand.ofCode (fieldZ op) = src at hz ⊢
  rw [← hy, ← hz]
  match dst, src with
  | .reg _, .reg _ => exact encode_ldRR _ _
  | .reg _, .atHL => exact encode_of_opcode _ (encode_ldRHL _) (by simp only [Operand.code]; omega)
  | .atHL, .reg _ => exact encode_ldHLR _
  | .atHL, .atHL => rfl

/-- Block `x = 3`: a family's arm by its codes, every other arm by its one byte. -/
theorem encode_primaryBlock3 : encode ((primaryBlock3 op).instr b1 b2) =
    [BitVec.ofNat 8 (0xC0 + 8 * fieldY op + fieldZ op), b1, b2].take (primaryBlock3 op).bytes := by
  have hy := fieldY_lt op
  have hz := fieldZ_lt op
  have hpq := fieldY_eq op
  have hq := fieldQ_lt op
  have hp := R16Stk.code_ofCode (fieldP_lt op)
  unfold primaryBlock3
  split
  case h_5 => -- RET cc
    exact encode_of_opcode _ (encode_retCC _) (by rw [Cond.code_ofCode (by grind)]; omega)
  case h_10 => -- POP
    exact encode_of_opcode _ (encode_popRR _) (by grind)
  case h_12 => -- LD (nn),A
    exact encode_of_opcode_nn (n := 0xEA) (fun _ => rfl) (by omega)
  case h_14 => -- LD A,(nn)
    exact encode_of_opcode_nn (n := 0xFA) (fun _ => rfl) (by omega)
  case h_15 => -- JP cc,nn
    exact encode_of_opcode_nn (encode_jpCC _) (by rw [Cond.code_ofCode (by grind)]; omega)
  case h_16 => -- JP nn
    exact encode_of_opcode_nn (n := 0xC3) (fun _ => rfl) (by omega)
  case h_17 => -- the CB page
    exact encode_of_opcode 0xCB (encode_cbInstr b1) (by omega)
  case h_28 => -- CALL cc,nn
    exact encode_of_opcode_nn (encode_callCC _) (by rw [Cond.code_ofCode (by grind)]; omega)
  case h_29 => -- CALL nn
    exact encode_of_opcode_nn (n := 0xCD) (fun _ => rfl) (by omega)
  case h_33 => -- PUSH
    exact encode_of_opcode _ (encode_pushRR _) (by grind)
  case h_34 => -- the immediate ALU instructions
    exact encode_of_opcode _ (encode_aluImm _ _) (by rw [AluOp.code_ofCode hy]; omega)
  case h_35 => -- RST
    exact encode_of_opcode _ (encode_rstT _) (by rw [Fin.val_ofNat, Nat.mod_eq_of_lt hy]; grind)
  all_goals exact encode_of_opcode _ rfl (by grind)

/-- The instruction of a first byte is encoded as the bytes it was read from (rules R100 to R112). -/
theorem encode_primaryEntry : encode ((primaryEntry op).instr b1 b2) = [op, b1, b2].take (primaryEntry op).bytes := by
  have hb := byte_of_fields op
  have hx := fieldX_lt op
  unfold primaryEntry
  split
  case h_1 h =>
    have h0 := encode_primaryBlock0 op b1 b2
    rwa [← Nat.zero_add (8 * fieldY op), ← Nat.mul_zero 0x40, ← h, hb] at h0
  case h_2 h =>
    have h0 := encode_primaryBlock1 op b1 b2
    rwa [← Nat.mul_one 0x40, ← h, hb] at h0
  case h_3 h =>
    refine (encode_aluOp _ _).trans ?_
    rw [AluOp.code_ofCode (fieldY_lt op), Operand.code_ofCode (fieldZ_lt op)]
    rw [h] at hb
    exact congrArg (fun b => [b]) hb
  case h_4 =>
    have h : fieldX op = 3 := by grind
    have h0 := encode_primaryBlock3 op b1 b2
    rw [h] at hb
    rwa [hb] at h0

end

/-! ## The decoder of the LR35902 -/

/-- `SYS` of the CHIP-8 machine is the one instruction with a bound on its operand. -/
theorem Instr.wellFormed_of_gameBoy {i : Instr} (h : i.machine = .gameBoy) : i.wellFormed = true := by
  cases i
  case ch8_sys_nnn => cases h
  all_goals rfl

/-- Three bytes hold an instruction (rules R100, R103). -/
theorem decodeGb_cons (op b1 b2 : Byte) (rest : List Byte) :
    decodeGb (op :: b1 :: b2 :: rest) =
      .ok ((primaryEntry op).instr b1 b2, (op :: b1 :: b2 :: rest).drop (primaryEntry op).bytes) := by
  simp only [decodeGb]
  cases primaryEntry op <;> rfl

/-- All that the decoder can answer: the row of a lone CB byte (log entry 15), or the instruction of the first byte's entry. -/
theorem decodeGb_ok {bytes rest : List Byte} {i : Instr} (h : decodeGb bytes = .ok (i, rest)) :
    (i = .prefixCb ∧ bytes = [0xCB] ∧ rest = []) ∨
    ∃ op b1 b2, i = (primaryEntry op).instr b1 b2 ∧ bytes = [op, b1, b2].take (primaryEntry op).bytes ++ rest := by
  unfold decodeGb at h
  split at h
  · cases h
  · next op tail =>
    split at h
    · next j r he =>
      cases h
      exact .inr ⟨op, 0, 0, by rw [he]; rfl, by rw [he]; rfl⟩
    · next f n r he =>
      cases h
      exact .inr ⟨op, n, 0, by rw [he]; rfl, by rw [he]; rfl⟩
    · next f e r he =>
      cases h
      exact .inr ⟨op, e, 0, by rw [he]; rfl, by rw [he]; rfl⟩
    · next f lo hi r he =>
      cases h
      exact .inr ⟨op, lo, hi, by rw [he]; rfl, by rw [he]; rfl⟩
    · next op2 r he =>
      cases h
      exact .inr ⟨op, op2, 0, by rw [he]; rfl, by rw [he]; rfl⟩
    · next he =>
      cases h
      have hb := encode_primaryEntry op 0 0
      rw [he] at hb
      cases hb
      exact .inl ⟨rfl, rfl, rfl⟩
    · cases h

/-- An entry that takes a word reads the word that was written. -/
theorem decodeGb_opNN {op : Byte} {f : Word → Instr} (h : primaryEntry op = .opNN f) (nn : Word) (rest : List Byte) :
    decodeGb (op :: lowByte nn :: highByte nn :: rest) = .ok (f nn, rest) := by
  rw [decodeGb_cons, h]
  simp only [PageEntry.instr, joinBytes_high_low]
  rfl

/-- Each row of the opcode table selects its own entry, and a word operand is joined from its two bytes. -/
theorem decodeGb_encode {i : Instr} (h : i.machine = .gameBoy) (hp : i ≠ .prefixCb) (rest : List Byte) :
    decodeGb (encode i ++ rest) = .ok (i, rest) := by
  cases i
  case prefixCb => exact absurd rfl hp
  case ld_BC_nn nn | ld_DE_nn nn | ld_HL_nn nn | ld_SP_nn nn | ld_at_nn_SP nn | ld_at_nn_A nn | ld_A_at_nn nn | jp_nn nn
      | jp_NZ_nn nn | jp_Z_nn nn | jp_NC_nn nn | jp_C_nn nn | call_nn nn | call_NZ_nn nn | call_Z_nn nn | call_NC_nn nn
      | call_C_nn nn =>
    exact decodeGb_opNN rfl nn rest
  all_goals cases h
  all_goals rfl

end Sys2Proof
end

section
/-! SUPPORT. Proofs: the CHIP-8 decoder reads what the encoder writes. -/

namespace Sys2Proof

/-! ## A CHIP-8 word is its fields (rule R301) -/

theorem ch8NNN_of_fields {m : Nibble} {op : Word} (hm : ch8Major op = m.toNat) : ch8NNN m (ch8Nnn op) = op := by
  apply BitVec.eq_of_toNat_eq
  simp only [ch8NNN, toNat_join, ← hm, ch8Major, ch8Nnn, BitVec.toNat_setWidth]
  omega

theorem ch8XNN_of_fields {m : Nibble} {nn : Byte} {op : Word} (hm : ch8Major op = m.toNat) (hn : lowByte op = nn) :
    ch8XNN m (ch8X op) nn = op := by
  apply BitVec.eq_of_toNat_eq
  simp only [ch8XNN, toNat_join, ← hm, ← hn, ch8Major, ch8X, toNat_lowByte, BitVec.toNat_setWidth, BitVec.toNat_ushiftRight,
    Nat.shiftRight_eq_div_pow]
  omega

theorem ch8XYN_of_fields {m n : Nibble} {op : Word} (hm : ch8Major op = m.toNat) (hn : ch8N op = n) :
    ch8XYN m (ch8X op) (ch8Y op) n = op := by
  apply BitVec.eq_of_toNat_eq
  simp only [ch8XYN, toNat_join, ← hm, ← hn, ch8Major, ch8X, ch8Y, ch8N, BitVec.toNat_setWidth, BitVec.toNat_ushiftRight,
    Nat.shiftRight_eq_div_pow]
  omega

theorem ch8Major_lt (op : Word) : ch8Major op < 16 := Nat.div_lt_of_lt_mul op.isLt

/-! ## The decoder of the CHIP-8 machine (rule R346) -/

/-- The instruction is a row of the CHIP-8 machine, and the word is its encoding. -/
def Instr.IsWord (i : Instr) (op : Word) : Prop := i.machine = .chip8 ∧ i.wellFormed = true ∧ encode i = wordBytes op

theorem isWord_of_decodeCh8Major8 {op : Word} {i : Instr} (hm : ch8Major op = 8) (h : decodeCh8Major8 op = .ok i) :
    i.IsWord op := by
  unfold decodeCh8Major8 at h
  split at h <;> cases h
  all_goals
    next hn =>
    exact ⟨rfl, rfl, congrArg wordBytes (ch8XYN_of_fields hm (BitVec.eq_of_toNat_eq hn))⟩

theorem isWord_of_decodeCh8MajorF {op : Word} {i : Instr} (hm : ch8Major op = 15) (h : decodeCh8MajorF op = .ok i) :
    i.IsWord op := by
  unfold decodeCh8MajorF at h
  split at h <;> cases h
  all_goals
    next hn =>
    exact ⟨rfl, rfl, congrArg wordBytes (ch8XNN_of_fields hm (BitVec.eq_of_toNat_eq hn))⟩

/-- `SYS` is what major 0 has beside `CLS` and `RET` (rule R304). -/
theorem isWord_sys {op : Word} (hm : ch8Major op = 0) (hcls : op ≠ 0x00E0) (hret : op ≠ 0x00EE) :
    (Instr.ch8_sys_nnn (ch8Nnn op)).IsWord op := by
  have hw : ch8NNN 0 (ch8Nnn op) = op := ch8NNN_of_fields hm
  refine ⟨rfl, ?_, congrArg wordBytes hw⟩
  simp only [Instr.wellFormed, sysOperandOk, Bool.and_eq_true, bne_iff_ne]
  exact ⟨fun hn => hcls (by rw [← hw, hn]; rfl), fun hn => hret (by rw [← hw, hn]; rfl)⟩

/-- A word that decodes is the encoding of its instruction: no bit is ignored. -/
theorem isWord_of_decodeCh8 {op : Word} {i : Instr} (h : decodeCh8 op = .ok i) : i.IsWord op := by
  have hlt := ch8Major_lt op
  unfold decodeCh8 at h
  split at h
  case h_1 hm =>
    split at h
    · next he => subst he; cases h; exact ⟨rfl, rfl, rfl⟩
    · split at h
      · next he => subst he; cases h; exact ⟨rfl, rfl, rfl⟩
      · cases h
        exact isWord_sys hm ‹_› ‹_›
  case h_2 hm | h_3 hm | h_11 hm | h_12 hm =>
    cases h
    exact ⟨rfl, rfl, congrArg wordBytes (ch8NNN_of_fields hm)⟩
  case h_4 hm | h_5 hm | h_7 hm | h_8 hm | h_13 hm =>
    cases h
    exact ⟨rfl, rfl, congrArg wordBytes (ch8XNN_of_fields hm rfl)⟩
  case h_6 hm | h_10 hm =>
    split at h <;> cases h
    exact ⟨rfl, rfl, congrArg wordBytes (ch8XYN_of_fields hm ‹_›)⟩
  case h_9 hm => exact isWord_of_decodeCh8Major8 hm h
  case h_14 hm =>
    cases h
    exact ⟨rfl, rfl, congrArg wordBytes (ch8XYN_of_fields hm rfl)⟩
  case h_15 hm =>
    split at h
    · cases h
      exact ⟨rfl, rfl, congrArg wordBytes (ch8XNN_of_fields hm ‹_›)⟩
    · split at h <;> cases h
      exact ⟨rfl, rfl, congrArg wordBytes (ch8XNN_of_fields hm ‹_›)⟩
  case h_16 => exact isWord_of_decodeCh8MajorF (by grind) h

theorem decodeCh8_sys {nnn : Addr12} (h : sysOperandOk nnn = true) : decodeCh8 (ch8NNN 0 nnn) = .ok (.ch8_sys_nnn nnn) := by
  obtain ⟨hm, hn⟩ := ch8NNN_fields 0 nnn
  simp only [sysOperandOk, Bool.and_eq_true, bne_iff_ne] at h
  have hcls : ch8NNN 0 nnn ≠ 0x00E0 := fun he => h.1 (by rw [← hn, he]; rfl)
  have hret : ch8NNN 0 nnn ≠ 0x00EE := fun he => h.2 (by rw [← hn, he]; rfl)
  simp only [decodeCh8, hm, hcls, hret, hn, if_false]
  rfl

/-- Each row's word is decoded as that row, by the fields of its format. -/
theorem decodeCh8_encode {i : Instr} (h : i.machine = .chip8) (hw : i.wellFormed = true) :
    ∃ op, encode i = wordBytes op ∧ decodeCh8 op = .ok i := by
  cases i
  case ch8_cls => exact ⟨0x00E0, rfl, rfl⟩
  case ch8_ret => exact ⟨0x00EE, rfl, rfl⟩
  case ch8_sys_nnn nnn => exact ⟨_, rfl, decodeCh8_sys hw⟩
  case ch8_jp_nnn nnn | ch8_call_nnn nnn | ch8_ld_I_nnn nnn | ch8_jp_V0_nnn nnn =>
    exact ⟨_, rfl, by simp [decodeCh8, ch8NNN_fields]⟩
  case ch8_se_Vx_nn x nn | ch8_sne_Vx_nn x nn | ch8_ld_Vx_nn x nn | ch8_add_Vx_nn x nn | ch8_rnd_Vx_nn x nn
      | ch8_skp_Vx x | ch8_sknp_Vx x =>
    exact ⟨_, rfl, by simp [decodeCh8, ch8XNN_fields]⟩
  case ch8_ld_Vx_DT x | ch8_ld_Vx_K x | ch8_ld_DT_Vx x | ch8_ld_ST_Vx x | ch8_add_I_Vx x | ch8_ld_F_Vx x | ch8_ld_B_Vx x
      | ch8_ld_atI_Vx x | ch8_ld_Vx_atI x =>
    exact ⟨_, rfl, by simp [decodeCh8, decodeCh8MajorF, ch8XNN_fields]⟩
  case ch8_drw_Vx_Vy_n | ch8_se_Vx_Vy x y | ch8_sne_Vx_Vy x y => exact ⟨_, rfl, by simp [decodeCh8, ch8XYN_fields]⟩
  case ch8_ld_Vx_Vy x y | ch8_or_Vx_Vy x y | ch8_and_Vx_Vy x y | ch8_xor_Vx_Vy x y | ch8_add_Vx_Vy x y | ch8_sub_Vx_Vy x y
      | ch8_shr_Vx_Vy x y | ch8_subn_Vx_Vy x y | ch8_shl_Vx_Vy x y =>
    exact ⟨_, rfl, by simp [decodeCh8, decodeCh8Major8, ch8XYN_fields]⟩
  all_goals cases h

theorem decodeCh8Bytes_wordBytes (op : Word) (rest : List Byte) :
    decodeCh8Bytes (wordBytes op ++ rest) = (decodeCh8 op).map (fun i => (i, rest)) := by
  simp only [wordBytes, decodeCh8Bytes, List.cons_append, joinBytes_high_low]
  rfl

theorem decodeCh8Bytes_ok {bytes rest : List Byte} {i : Instr} (h : decodeCh8Bytes bytes = .ok (i, rest)) :
    ∃ op, decodeCh8 op = .ok i ∧ bytes = wordBytes op ++ rest := by
  unfold decodeCh8Bytes at h
  split at h
  · next hi lo tail =>
    cases hd : decodeCh8 (joinBytes hi lo) with
    | error e => rw [hd] at h; cases h
    | ok j =>
      rw [hd] at h
      cases h
      exact ⟨_, hd, by simp [wordBytes]⟩
  · cases h

end Sys2Proof
end

section
/-! SUPPORT. Proofs: decoding and encoding are inverse (O1, O2). -/

namespace Sys2Proof

/-- An encoded instruction is decoded whatever follows it, unless it is the row of a lone CB byte (log entry 15). -/
theorem decode_encode_append {i : Instr} (hw : i.wellFormed = true) (hp : i ≠ .prefixCb) (rest : List Byte) :
    decode i.machine (encode i ++ rest) = .ok (i, rest) := by
  cases hm : i.machine with
  | gameBoy => exact decodeGb_encode hm hp rest
  | chip8 =>
    obtain ⟨op, he, hd⟩ := decodeCh8_encode hm hw
    rw [decode, he, decodeCh8Bytes_wordBytes, hd]
    rfl

/-- Settles O1: the row of a lone CB byte is decoded as it stands, and every other row whatever follows it. -/
theorem encodeDecodeRoundTrip : Obligations.EncodeDecodeRoundTrip := by
  intro i hw
  refine ⟨?_, decode_encode_append hw⟩
  by_cases hp : i = .prefixCb
  · rw [hp]
    rfl
  · rw [← List.append_nil (encode i)]
    exact decode_encode_append hw hp []

/-- Settles O2: whatever either decoder can answer is encoded as the bytes it was read from. -/
theorem decodedBytesAreTheEncoding : Obligations.DecodedBytesAreTheEncoding := by
  intro m bytes rest i h
  cases m with
  | gameBoy =>
    obtain ⟨rfl, rfl, rfl⟩ | ⟨op, b1, b2, rfl, hb⟩ := decodeGb_ok h
    · exact ⟨rfl, rfl, rfl⟩
    · have hm := primaryEntry_machine op b1 b2
      exact ⟨hm, Instr.wellFormed_of_gameBoy hm, by rw [encode_primaryEntry, hb]⟩
  | chip8 =>
    obtain ⟨op, hd, hb⟩ := decodeCh8Bytes_ok h
    obtain ⟨hm, hw, he⟩ := isWord_of_decodeCh8 hd
    exact ⟨hm, hw, by rw [he, hb]⟩

end Sys2Proof
end

section
/-! SUPPORT. Proofs: every fetch decodes (O3), and the undefined first bytes (O6). -/

namespace Sys2Proof.Machine

/-- With bytes after it, no first byte is the row of a lone CB byte. -/
theorem primaryEntry_ne_prefixCb (op b1 b2 : Byte) : (primaryEntry op).instr b1 b2 ≠ .prefixCb := by
  intro h
  have hl := primaryEntry_length op b1 b2
  have he := encode_primaryEntry op b1 b2
  rw [h] at hl
  rw [h, ← hl] at he
  cases he
  cases hl

/-- Settles O3: three bytes hold the instruction of the first byte's entry, and the fetch takes the same one. -/
theorem everyFetchDecodes : Obligations.EveryFetchDecodes := by
  intro b0 b1 b2
  have hd := decodeGb_cons b0 b1 b2 []
  refine ⟨_, _, hd, primaryEntry_ne_prefixCb b0 b1 b2, decode_three_bytes hd, ?_⟩
  rw [primaryEntry_length]
  cases primaryEntry b0 <;> simp [PageEntry.bytes]

/-- What an undefined first byte does (rule R286), from its entry and its meaning. -/
theorem undefinedOpcode_skips_or_stops {op : Byte} {i : Instr} (hd : primaryEntry op = .op i)
    (hx : ∀ s, exec i s = undefined op s) (s : State) :
    (∀ rest, decode .gameBoy (op :: rest) = .ok (i, rest)) ∧
    (s.cfg.undefPolicy = .skip → runsStoringNothing i s { s with gb := { s.gb with cycles := 4 } }) ∧
    (s.cfg.undefPolicy = .fault → exec i s = .fault (.undefinedOpcode op (s.gb.pc - 1))) := by
  refine ⟨fun rest => ?_, fun hskip => ⟨?_, fun _ _ => rfl⟩, fun hfault => ?_⟩
  · simp only [decode, decodeGb, hd]
  · rw [hx, undefined, hskip]
    rfl
  · rw [hx, undefined, hfault]

/-- Settles O6: each of the eleven bytes selects its own row, whose meaning is that of an undefined byte. -/
theorem undefinedOpcodesSkip : Obligations.UndefinedOpcodesSkip := by
  intro p hp s
  simp only [List.mem_cons, List.not_mem_nil, or_false] at hp
  rcases hp with rfl | rfl | rfl | rfl | rfl | rfl | rfl | rfl | rfl | rfl | rfl
  all_goals exact undefinedOpcode_skips_or_stops rfl (fun _ => rfl) s

end Sys2Proof.Machine
end

section
/-! SUPPORT. Proofs: the frames of instructions that load a register or store one byte, and the 8-bit loads (O35, O36). -/

namespace Sys2Proof.Machine

/-! ## Instructions that store nothing, and instructions that store one byte -/

/-- A register is not on the bus: no read sees it. -/
theorem GameBoy.memRead_setR8 (g : GameBoy) (r : R8) (v : Byte) (slot : ReadSlot) (b : Word) :
    (g.setR8 r v).memRead slot b = g.memRead slot b := by
  apply GameBoy.memRead_congr <;> simp

/-- An instruction that means an operation on the Game Boy machine stores nothing when every read gives what it gave before. -/
theorem runsStoringNothing_of_gbNext {i : Instr} {f : GameBoy → GameBoy} (hx : exec i = gbNext f) {s : State}
    (hread : ∀ slot b, (f s.gb).memRead slot b = s.gb.memRead slot b) :
    runsStoringNothing i s { s with gb := f s.gb } :=
  ⟨congrFun hx s, hread⟩

/-- It stores one byte, at `a`, when every read gives what it gives after the write of that byte; the frame is that of the write. -/
theorem runsStoring_of_gbNext {i : Instr} {f : GameBoy → GameBoy} (hx : exec i = gbNext f) {s : State} {a : Word} (v : Byte)
    (hread : ∀ slot b, (f s.gb).memRead slot b = (s.gb.memWrite a v).memRead slot b) :
    runsStoring i (mayTouch a) s { s with gb := f s.gb } :=
  ⟨congrFun hx s, fun hw slot b hb => (hread slot b).trans (GameBoy.memRead_memWrite_of_untouched hw hb v slot)⟩

/-! ## Loads and stores at `HL` -/

theorem exec_ldRR (dst src : R8) : exec (Instr.ldRR dst src) = gbNext (ldRR dst src) := by cases dst <;> cases src <;> rfl

theorem exec_ldRN (dst : R8) (n : Byte) : exec (Instr.ldRN dst n) = gbNext (ldRN dst n) := by cases dst <;> rfl

theorem exec_ldRHL (dst : R8) : exec (Instr.ldRHL dst) = gbNext (ldRHL dst) := by cases dst <;> rfl

theorem exec_ldHLR (src : R8) : exec (Instr.ldHLR src) = gbNext (ldHLR src) := by cases src <;> rfl

/-- Settles O35: a load writes one register, which no read sees; a store is one byte write at `HL`. -/
theorem loadsAndStoresAtHl : Obligations.LoadsAndStoresAtHl := by
  refine ⟨fun s => ⟨fun dst src => ?_, fun dst n => ?_, fun dst => ?_⟩, fun s => ⟨fun src => ?_, fun n => ?_⟩⟩
  · exact runsStoringNothing_of_gbNext (exec_ldRR dst src) (s.gb.memRead_setR8 dst _)
  · exact runsStoringNothing_of_gbNext (exec_ldRN dst n) (s.gb.memRead_setR8 dst n)
  · exact runsStoringNothing_of_gbNext (exec_ldRHL dst) (s.gb.memRead_setR8 dst _)
  · exact runsStoring_of_gbNext (exec_ldHLR src) (s.gb.r8 src) fun _ _ => rfl
  · exact runsStoring_of_gbNext (f := ldHLN n) rfl n fun _ _ => rfl

/-! ## Loads and stores of `A` -/

/-- A high-page address has the byte 0xFF above the operand (rules R141 to R144). -/
theorem highPage_eq_append (n : Byte) : highPage n = (0xFF : Byte) ++ n := by
  apply BitVec.eq_of_toNat_eq
  rw [toNat_highPage, toNat_join]
  rfl

/-- A load of `A` (rule R149): the byte at the effective address. -/
theorem runsStoringNothing_loadA {i : Instr} {addr : GameBoy → Word} {cost : Nat}
    (hx : exec i = gbNext fun g => loadA (addr g) cost g) (s : State) :
    runsStoringNothing i s { s with gb := { s.gb with a := s.gb.memRead (.data 0) (addr s.gb), cycles := cost } } :=
  runsStoringNothing_of_gbNext hx (s.gb.memRead_setR8 .a (s.gb.memRead (.data 0) (addr s.gb)))

/-- A store of `A` (rule R149): one byte write at the effective address. -/
theorem runsStoring_storeA {i : Instr} {addr : GameBoy → Word} {cost : Nat}
    (hx : exec i = gbNext fun g => storeA (addr g) cost g) (s : State) :
    runsStoring i (mayTouch (addr s.gb)) s { s with gb := { s.gb.memWrite (addr s.gb) s.gb.a with cycles := cost } } :=
  runsStoring_of_gbNext hx s.gb.a fun _ _ => rfl

/-- `(HL+)` and `(HL-)` read at `HL` as it was and step it after (rules R147, R148). -/
theorem runsStoringNothing_loadAStep {i : Instr} {delta : Word} (hx : exec i = gbNext (loadAStep delta)) (s : State) :
    runsStoringNothing i s { s with gb :=
      { s.gb.setR16 .hl (s.gb.hl + delta) with a := s.gb.memRead (.data 0) s.gb.hl, cycles := 8 } } :=
  runsStoringNothing_of_gbNext hx fun _ _ => rfl

/-- `(HL+)` and `(HL-)` store at `HL` as it was and step it after (rules R145, R146). -/
theorem runsStoring_storeAStep {i : Instr} {delta : Word} (hx : exec i = gbNext (storeAStep delta)) (s : State) :
    runsStoring i (mayTouch s.gb.hl) s { s with gb :=
      { (s.gb.memWrite s.gb.hl s.gb.a).setR16 .hl (s.gb.hl + delta) with cycles := 8 } } :=
  runsStoring_of_gbNext hx s.gb.a fun _ _ => rfl

/-- Settles O36: each form is one of the four above, at its effective address; a step by -1 is what subtracts one. -/
theorem accumulatorLoadsAndStores : Obligations.AccumulatorLoadsAndStores := by
  refine ⟨fun s => ⟨?_, ?_, fun nn => ?_, fun n => ?_, ?_, ?_, ?_⟩, fun s => ⟨?_, ?_, fun nn => ?_, fun n => ?_, ?_, ?_, ?_⟩⟩
  · exact runsStoringNothing_loadA (addr := GameBoy.bc) rfl s
  · exact runsStoringNothing_loadA (addr := GameBoy.de) rfl s
  · exact runsStoringNothing_loadA (addr := fun _ => nn) rfl s
  · rw [← highPage_eq_append]
    exact runsStoringNothing_loadA (addr := fun _ => highPage n) rfl s
  · rw [← highPage_eq_append]
    exact runsStoringNothing_loadA (addr := fun g => highPage g.c) rfl s
  · exact runsStoringNothing_loadAStep (delta := 1) rfl s
  · rw [sub_eq_add_neg]
    exact runsStoringNothing_loadAStep (delta := -1) rfl s
  · exact runsStoring_storeA (addr := GameBoy.bc) rfl s
  · exact runsStoring_storeA (addr := GameBoy.de) rfl s
  · exact runsStoring_storeA (addr := fun _ => nn) rfl s
  · rw [← highPage_eq_append]
    exact runsStoring_storeA (addr := fun _ => highPage n) rfl s
  · rw [← highPage_eq_append]
    exact runsStoring_storeA (addr := fun g => highPage g.c) rfl s
  · exact runsStoring_storeAStep (delta := 1) rfl s
  · rw [sub_eq_add_neg]
    exact runsStoring_storeAStep (delta := -1) rfl s

end Sys2Proof.Machine
end

section
/-! SUPPORT. Proofs: the 16-bit loads (O37), what the stack holds after a push (O39), and the calls and restarts (O51). -/

namespace Sys2Proof.Machine

/-! ## The 16-bit loads -/

theorem exec_ldRRnn (p : R16) (nn : Word) : exec (Instr.ldRRnn p nn) = gbNext (ldRRnn p nn) := by cases p <;> rfl

/-- A pair is not on the bus: no read sees it. -/
theorem GameBoy.memRead_setR16 (g : GameBoy) (p : R16) (v : Word) (slot : ReadSlot) (b : Word) :
    (g.setR16 p v).memRead slot b = g.memRead slot b := by
  apply GameBoy.memRead_congr <;> simp

/-- A two-byte store changes no read but those that its bytes, at `a` and `a + 1`, may touch. -/
theorem GameBoy.memRead_memWrite16_of_untouched {g : GameBoy} (hw : Memory.wf busInit g.mem = true) {a b : Word}
    (h : mayTouchTwo a b = false) (v : Word) (slot : ReadSlot) : (g.memWrite16 a v).memRead slot b = g.memRead slot b := by
  obtain ⟨hfirst, hsecond⟩ := Bool.or_eq_false_iff.mp h
  calc (g.memWrite16 a v).memRead slot b
      = (g.memWrite a (lowByte v)).memRead slot b :=
        GameBoy.memRead_memWrite_of_untouched (GameBoy.wf_memWrite hw _ _) hsecond _ slot
    _ = g.memRead slot b := GameBoy.memRead_memWrite_of_untouched hw hfirst _ slot

/-- Settles O37: three loads write registers, which no read sees; `LD (nn),SP` is one two-byte store. -/
theorem load16 : Obligations.Load16 := by
  refine fun s => ⟨fun p nn => ?_, ?_, fun e => ?_, fun nn => ⟨rfl, fun hw slot _ h => ?_⟩⟩
  · exact runsStoringNothing_of_gbNext (exec_ldRRnn p nn) (s.gb.memRead_setR16 p nn)
  · exact runsStoringNothing_of_gbNext (f := ldSpHl) rfl (s.gb.memRead_setR16 .sp s.gb.hl)
  · exact runsStoringNothing_of_gbNext (f := ldHlSpE e) rfl (s.gb.memRead_setR16 .hl (s.gb.spPlus e))
  · exact GameBoy.memRead_memWrite16_of_untouched hw h s.gb.sp slot

/-! ## Calls and restarts -/

theorem exec_callCC (cc : Cond) (nn : Word) : exec (Instr.callCC cc nn) = gbNext (callIf cc nn) := by cases cc <;> rfl

theorem exec_rstT (t : Fin 8) : exec (Instr.rstT t) = gbNext (restart t) := by fin_cases t <;> rfl

theorem callIf_of_cond {cc : Cond} {g : GameBoy} (h : g.cond cc = true) (nn : Word) : callIf cc nn g = call nn g := if_pos h

theorem callIf_of_not_cond {cc : Cond} {g : GameBoy} (h : g.cond cc = false) (nn : Word) : callIf cc nn g = g.spend 12 :=
  if_neg (Bool.eq_false_iff.mp h)

/-- An instruction that comes down to a call (rules R265, R270) touches the two bytes of its push alone. -/
theorem runsStoring_of_callTo {i : Instr} {f : GameBoy → GameBoy} (hx : exec i = gbNext f) {s : State} {target : Word} {cost : Nat}
    (hf : f s.gb = (callTo target s.gb).spend cost) :
    runsStoring i (mayTouchTwo (s.gb.sp - 2)) s { s with gb := (callTo target s.gb).spend cost } := by
  refine ⟨?_, fun hw slot _ h => GameBoy.memRead_push16_of_untouched hw h s.gb.pc slot⟩
  rw [hx, ← hf]
  rfl

/-- Settles O51: each form that jumps comes down to a call of its target; a call not taken only spends its cycles. -/
theorem callsAndRestarts : Obligations.CallsAndRestarts := by
  refine fun s => ⟨fun nn => ?_, fun cc nn h => ?_, fun cc nn h => ?_, fun t => ?_⟩
  · exact runsStoring_of_callTo (f := call nn) rfl rfl
  · exact runsStoring_of_callTo (exec_callCC cc nn) (callIf_of_cond h nn)
  · refine ⟨?_, fun _ _ => rfl⟩
    rw [exec_callCC, gbNext, callIf_of_not_cond h]
    rfl
  · rw [Nat.mul_comm]
    exact runsStoring_of_callTo (exec_rstT t) rfl

/-! ## What the stack holds after a push -/

/-- A plain write may touch only what is kept in the same place. -/
theorem mayTouch_eq_false_of_plain {a b : Word} (ha : plainStorage a = true) (hd : regionOf a ≠ .dma)
    (h : storageAddr b ≠ storageAddr a) : mayTouch a b = false := by
  unfold plainStorage at ha
  unfold mayTouch
  cases hr : regionOf a <;> rw [hr] at ha
  case vram | wram | echo | oam | io | hram | ie => exact beq_eq_false_iff_ne.mpr h
  case dma => exact absurd hr hd
  all_goals contradiction

/-- The two bytes of the stack are kept in two places, also where one of them lies in the echo range. -/
theorem storageAddr_stack_ne {sp : Word} (hhigh : plainStorage (sp - 1) = true) : storageAddr (sp - 1) ≠ storageAddr (sp - 2) := by
  have hnumber := plainStorage_iff.mp hhigh
  have hnext : (sp - 1).toNat = (sp - 2).toNat + 1 := by bv_omega
  have hc := storageAddr_cases (sp - 1)
  have hc' := storageAddr_cases (sp - 2)
  omega

section
variable {g : GameBoy} (hw : Memory.wf busInit g.mem = true) (hhigh : plainStorage (g.sp - 1) = true)
  (hlow : plainStorage (g.sp - 2) = true) (hdma : regionOf (g.sp - 2) ≠ .dma) (v : Word) (slot : ReadSlot)
include hw hlow

/-- A push into plain storage leaves the low byte at `SP - 2` (rule R164). -/
theorem GameBoy.memRead_push16_low : (g.push16 v).memRead slot (g.sp - 2) = lowByte v := by
  unfold GameBoy.push16
  refine GameBoy.memRead_memWrite_plain ?_ hlow _ slot
  exact GameBoy.wf_memWrite (g := { g with sp := g.sp - 1 }) hw _ _

include hhigh hdma

/-- It leaves the high byte at `SP - 1`, which the store of the low byte does not touch (rules R164, R166). -/
theorem GameBoy.memRead_push16_high : (g.push16 v).memRead slot (g.sp - 1) = highByte v := by
  have huntouched := mayTouch_eq_false_of_plain hlow hdma (storageAddr_stack_ne hhigh)
  unfold GameBoy.push16
  refine (GameBoy.memRead_memWrite_of_untouched ?_ huntouched _ slot).trans ?_
  · exact GameBoy.wf_memWrite (g := { g with sp := g.sp - 1 }) hw _ _
  · exact GameBoy.memRead_memWrite_plain (g := { g with sp := g.sp - 1 }) hw hhigh _ slot

/-- What a push into plain storage leaves is what a pop takes. -/
theorem GameBoy.popValue_push16 : (g.push16 v).popValue = v := by
  have hnext : g.sp - 2 + 1 = g.sp - 1 := by bv_omega
  unfold GameBoy.popValue
  rw [GameBoy.push16_sp, hnext, GameBoy.memRead_push16_high hw hhigh hlow hdma, GameBoy.memRead_push16_low hw hlow,
    joinBytes_high_low]

end

/-! ## Round trips -/

/-- What a pop leaves in its pair: the value on the stack, without the low nibble of `F` (rule R165). -/
theorem popPair_r16stk (q : R16Stk) (g : GameBoy) :
    (popPair q g).r16stk q = if q = .af then g.popValue &&& 0xFFF0 else g.popValue := by
  have hset : (popPair q g).r16stk q = (g.popped.setR16stk q g.popValue).r16stk q := by cases q <;> rfl
  rw [hset, GameBoy.r16stk_setR16stk, if_pos rfl]

theorem popPair_sp (q : R16Stk) (g : GameBoy) : (popPair q g).sp = g.sp + 2 := g.popped.setR16stk_sp q g.popValue

theorem pushPair_sp (p : R16Stk) (g : GameBoy) : (pushPair p g).sp = g.sp - 2 := g.push16_sp _

theorem call_sp (nn : Word) (g : GameBoy) : (call nn g).sp = g.sp - 2 := g.push16_sp _

/-- Settles O39: the pop and the return take the value that the push left, and add to `SP` what it took away. -/
theorem stackRoundTrips : Obligations.StackRoundTrips := by
  refine ⟨fun s p q hw hhigh hlow _ hdma => ?_, fun s nn hw hhigh hlow _ hdma => ?_⟩
  · have hvalue : (pushPair p s.gb).popValue = s.gb.r16stk p := GameBoy.popValue_push16 hw hhigh hlow hdma _
    refine ⟨_, _, congrFun (exec_pushRR p) s, congrFun (exec_popRR q) _, ?_, ?_⟩
    · rw [← hvalue]
      exact popPair_r16stk q _
    · calc (popPair q (pushPair p s.gb)).sp = s.gb.sp - 2 + 2 := by rw [popPair_sp, pushPair_sp]
        _ = s.gb.sp := sub_add_cancel _ _
  · have hvalue : (call nn s.gb).popValue = s.gb.pc := GameBoy.popValue_push16 hw hhigh hlow hdma _
    refine ⟨{ s with gb := call nn s.gb }, { s with gb := returnAlways (call nn s.gb) }, rfl, rfl, call_sp nn s.gb,
      fun slot => ⟨?_, ?_⟩, rfl, hvalue, ?_⟩
    · exact GameBoy.memRead_push16_high hw hhigh hlow hdma s.gb.pc slot
    · exact GameBoy.memRead_push16_low hw hlow s.gb.pc slot
    · calc (returnAlways (call nn s.gb)).sp = s.gb.sp - 2 + 2 := congrArg (· + 2) (call_sp nn s.gb)
        _ = s.gb.sp := sub_add_cancel _ _

end Sys2Proof.Machine
end

section
/-! SUPPORT. Proofs: the exact sums and differences of the 8-bit ALU (O41), the bitwise operations (O42) and the operand forms (O40). -/

namespace Sys2Proof.Machine

/-! ## Carries and borrows -/

/-- A sum of two digits and a carry is its last digit and its carry out. -/
theorem mod_add_carry {s m : Nat} (h : s < 2 * m) : s % m + m * (decide (m ≤ s)).toNat = s := by
  by_cases hm : m ≤ s
  · have hlow : s % m = s - m := by rw [Nat.mod_eq_sub_mod hm, Nat.mod_eq_of_lt (by omega)]
    simp only [hm, decide_true, Bool.toNat_true, hlow]
    omega
  · simp [hm, Nat.mod_eq_of_lt (Nat.lt_of_not_le hm)]

/-- A difference is a sum read backwards: the borrow is the carry out of the difference and what was taken away. -/
theorem add_eq_add_borrow {d s a m : Nat} (h : d + s < 2 * m) (hd : d < m) (hmod : (d + s) % m = a) :
    d + s = a + m * (decide (a < s)).toNat := by
  have hsum := mod_add_carry h
  rw [hmod] at hsum
  have hborrow : m ≤ d + s ↔ a < s := by
    by_cases hm : m ≤ d + s
    · simp only [hm, decide_true, Bool.toNat_true] at hsum
      omega
    · simp only [hm, decide_false, Bool.toNat_false] at hsum
      omega
  rw [← hsum, decide_eq_decide.mpr hborrow]

theorem adc8_byte_exact (a v : Byte) (c : Bool) :
    (adc8 a v c).1.toNat + 256 * (adc8 a v c).2.c.toNat = a.toNat + v.toNat + c.toNat := by
  have hc := c.toNat_le
  exact mod_add_carry (m := 256) (by omega)

theorem adc8_nibble_exact (a v : Byte) (c : Bool) :
    (adc8 a v c).1.toNat % 16 + 16 * (adc8 a v c).2.h.toNat = a.toNat % 16 + v.toNat % 16 + c.toNat := by
  have hc := c.toNat_le
  have hlow : (adc8 a v c).1.toNat % 16 = (a.toNat % 16 + v.toNat % 16 + c.toNat) % 16 := by
    simp only [adc8, BitVec.toNat_ofNat]
    omega
  rw [hlow]
  exact mod_add_carry (m := 16) (by omega)

theorem sbc8_toNat_mod (a v : Byte) (c : Bool) : ((sbc8 a v c).1.toNat + (v.toNat + c.toNat)) % 256 = a.toNat := by
  have hc := c.toNat_le
  simp only [sbc8, BitVec.toNat_sub, BitVec.toNat_ofNat]
  omega

theorem sbc8_byte_exact (a v : Byte) (c : Bool) :
    (sbc8 a v c).1.toNat + v.toNat + c.toNat = a.toNat + 256 * (sbc8 a v c).2.c.toNat := by
  have hc := c.toNat_le
  rw [Nat.add_assoc]
  exact add_eq_add_borrow (by omega) (BitVec.isLt _) (sbc8_toNat_mod a v c)

theorem sbc8_nibble_exact (a v : Byte) (c : Bool) :
    (sbc8 a v c).1.toNat % 16 + v.toNat % 16 + c.toNat = a.toNat % 16 + 16 * (sbc8 a v c).2.h.toNat := by
  have hc := c.toNat_le
  have hmod := sbc8_toNat_mod a v c
  rw [Nat.add_assoc]
  exact add_eq_add_borrow (by omega) (Nat.mod_lt _ (by decide)) (by omega)

/-- `SUB` is `SBC` without a borrow in, as `ADD` is `ADC` without a carry in. -/
theorem sub8_eq_sbc8 (a v : Byte) : sub8 a v = sbc8 a v false := by
  have hborrow : a - v - BitVec.ofNat 8 false.toNat = a - v := BitVec.sub_zero _
  unfold sub8 sbc8
  rw [hborrow]
  rfl

theorem sub8_byte_exact (a v : Byte) : (sub8 a v).1.toNat + v.toNat = a.toNat + 256 * (sub8 a v).2.c.toNat := by
  rw [sub8_eq_sbc8]
  exact sbc8_byte_exact a v false

theorem sub8_nibble_exact (a v : Byte) :
    (sub8 a v).1.toNat % 16 + v.toNat % 16 = a.toNat % 16 + 16 * (sub8 a v).2.h.toNat := by
  rw [sub8_eq_sbc8]
  exact sbc8_nibble_exact a v false

theorem sub8_z_iff (a v : Byte) : (sub8 a v).2.z = true ↔ a = v := beq_iff_eq.trans sub_eq_zero

theorem sub8_c_iff (a v : Byte) : (sub8 a v).2.c = true ↔ a < v := decide_eq_true_iff

/-- Settles O41: `ADD`, `SUB` and `CP` are the exact sum and difference with no carry or borrow in. -/
theorem addAndSubtractResults : Obligations.AddAndSubtractResults := by
  refine ⟨fun op a v c hop => ?_, fun op a v c hop => ?_⟩
  · obtain rfl | rfl := hop
    · exact ⟨adc8_byte_exact a v false, adc8_nibble_exact a v false, beq_iff_eq, rfl⟩
    · exact ⟨adc8_byte_exact a v c, adc8_nibble_exact a v c, beq_iff_eq, rfl⟩
  · obtain rfl | rfl | rfl := hop
    · exact ⟨sub8_byte_exact a v, sub8_nibble_exact a v, beq_iff_eq, rfl, nofun⟩
    · exact ⟨sbc8_byte_exact a v c, sbc8_nibble_exact a v c, beq_iff_eq, rfl, nofun⟩
    · exact ⟨sub8_byte_exact a v, sub8_nibble_exact a v, beq_iff_eq, rfl, fun _ => ⟨rfl, sub8_z_iff a v, sub8_c_iff a v⟩⟩

/-! ## Bitwise operations and operand forms -/

/-- Settles O42, by the bits of the library's bitwise operations. -/
theorem logicResult : Obligations.LogicResult := by
  refine fun a v c => ⟨fun _ => BitVec.getLsbD_and, fun _ => BitVec.getLsbD_xor, fun _ => BitVec.getLsbD_or, fun op hop => ?_⟩
  obtain rfl | rfl | rfl := hop <;> rfl

theorem exec_aluOp (op : AluOp) (x : Operand) : exec (Instr.aluOp op x) = gbNext (aluOperand op x) := by
  unfold Instr.aluOp; split <;> rfl

theorem exec_aluImm (op : AluOp) (n : Byte) : exec (Instr.aluImm op n) = gbNext (aluImmediate op n) := by cases op <;> rfl

/-- Settles O40: each form is one operation on the operand's value, and no read sees `A` or the flags. -/
theorem aluForms : Obligations.AluForms := by
  refine fun s op => ⟨fun r => ?_, ?_, fun n => ?_⟩
  · exact runsStoringNothing_of_gbNext (exec_aluOp op (.reg r)) fun _ _ => rfl
  · exact runsStoringNothing_of_gbNext (exec_aluOp op .atHL) fun _ _ => rfl
  · exact runsStoringNothing_of_gbNext (exec_aluImm op n) fun _ _ => rfl

end Sys2Proof.Machine
end

section
/-! SUPPORT. Proofs: `INC` and `DEC` of a byte (O43), `DAA` and the flag instructions (O44), and decimal arithmetic (O45). -/

namespace Sys2Proof.Machine

/-! ## What an instruction runs to, written out -/

section
variable {i : Instr} {f : GameBoy → GameBoy} (hx : exec i = gbNext f) {s : State} {g : GameBoy} (hf : f s.gb = g)
include hx hf

theorem runsStoringNothing_of_eq (hread : ∀ slot b, g.memRead slot b = s.gb.memRead slot b) :
    runsStoringNothing i s { s with gb := g } := by
  subst hf
  exact runsStoringNothing_of_gbNext hx hread

theorem runsStoring_of_eq {a : Word} (v : Byte) (hread : ∀ slot b, g.memRead slot b = (s.gb.memWrite a v).memRead slot b) :
    runsStoring i (mayTouch a) s { s with gb := g } := by
  subst hf
  exact runsStoring_of_gbNext hx v hread

end

/-! ## Steps by one -/

theorem inc8_eq (v : Byte) (f : Flags) :
    inc8 v f = (v + 1, { z := decide (v = 0xFF), n := false, h := decide (v.toNat % 16 = 0xF), c := f.c }) := by
  have hwrap : v + 1 = 0 ↔ v = 0xFF := by bv_omega
  have hz : (v + 1 == 0) = decide (v = 0xFF) := decide_eq_decide.mpr hwrap
  simp only [inc8, hz]
  rfl

theorem dec8_eq (v : Byte) (f : Flags) :
    dec8 v f = (v - 1, { z := decide (v = 0x01), n := true, h := decide (v.toNat % 16 = 0x0), c := f.c }) := by
  have hz : (v - 1 == 0) = decide (v = 0x01) := decide_eq_decide.mpr sub_eq_zero
  simp only [dec8, hz]
  rfl

theorem incOperand_eq (x : Operand) (g : GameBoy) : incOperand x g = { g.put x (g.get x + 1) with
    f := { z := decide (g.get x = 0xFF), n := false, h := decide ((g.get x).toNat % 16 = 0xF), c := g.f.c },
    cycles := operandCost x 4 12 } := by
  unfold incOperand
  rw [inc8_eq]
  rfl

theorem decOperand_eq (x : Operand) (g : GameBoy) : decOperand x g = { g.put x (g.get x - 1) with
    f := { z := decide (g.get x = 0x01), n := true, h := decide ((g.get x).toNat % 16 = 0x0), c := g.f.c },
    cycles := operandCost x 4 12 } := by
  unfold decOperand
  rw [dec8_eq]
  rfl

theorem exec_incOp (x : Operand) : exec (Instr.incOp x) = gbNext (incOperand x) := by unfold Instr.incOp; split <;> rfl

theorem exec_decOp (x : Operand) : exec (Instr.decOp x) = gbNext (decOperand x) := by unfold Instr.decOp; split <;> rfl

/-- Settles O43: a register form writes one register, which no read sees; the form at `HL` is one byte write there. -/
theorem incAndDecByte : Obligations.IncAndDecByte := by
  refine fun s => ⟨fun r => ?_, fun r => ?_, ?_⟩
  · exact runsStoringNothing_of_eq (exec_incOp (.reg r)) (incOperand_eq _ _) (s.gb.memRead_setR8 r _)
  · exact runsStoringNothing_of_eq (exec_decOp (.reg r)) (decOperand_eq _ _) (s.gb.memRead_setR8 r _)
  · rintro v rfl
    exact ⟨runsStoring_of_eq (exec_incOp .atHL) (incOperand_eq _ _) _ fun _ _ => rfl,
      runsStoring_of_eq (exec_decOp .atHL) (decOperand_eq _ _) _ fun _ _ => rfl⟩

/-! ## `DAA` and the flag instructions -/

theorem daa8_result (a : Byte) (f : Flags) : (daa8 a f).1 =
    if f.n then a - BitVec.ofNat 8 (daaSubAdjust f) else a + BitVec.ofNat 8 (daaAddAdjust a f) := by
  unfold daa8
  split <;> rfl

theorem daa8_flags (a : Byte) (f : Flags) : (daa8 a f).2 =
    { z := decide ((daa8 a f).1 = 0), n := f.n, h := false, c := f.c || (!f.n && decide (a.toNat > 0x99)) } := by
  unfold daa8
  cases hn : f.n with
  | false => rw [Bool.not_false, Bool.true_and]; rfl
  | true => rw [Bool.not_true, Bool.false_and, Bool.or_false]; rfl

/-- Settles O44: the four change `A` and the flags alone, which no read sees. -/
theorem accumulatorAndFlagInstructions : Obligations.AccumulatorAndFlagInstructions := by
  refine fun s => ⟨?_, ?_, ?_, ?_⟩
  · refine runsStoringNothing_of_eq (f := runDaa) rfl ?_ fun _ _ => rfl
    rw [runDaa, daa8_flags, daa8_result]
    rfl
  · have hnot : s.gb.a ^^^ 0xFF = ~~~ s.gb.a := BitVec.xor_allOnes
    rw [← hnot]
    exact runsStoringNothing_of_gbNext (f := runCpl) rfl fun _ _ => rfl
  · exact runsStoringNothing_of_gbNext (f := runScf) rfl fun _ _ => rfl
  · exact runsStoringNothing_of_gbNext (f := runCcf) rfl fun _ _ => rfl

/-! ## Decimal results -/

theorem isBcd_iff (v : Byte) : isBcd v = true ↔ v.toNat / 16 ≤ 9 ∧ v.toNat % 16 ≤ 9 := by simp [isBcd]

theorem daaSubAdjust_eq (f : Flags) : daaSubAdjust f = 0x06 * f.h.toNat + 0x60 * f.c.toNat := by
  unfold daaSubAdjust
  cases f.h <;> cases f.c <;> rfl

section
variable {r a v : Byte} {f : Flags} {carry : Nat} (ha : isBcd a = true) (hv : isBcd v = true) (hcarry : carry ≤ 1)
include ha hv hcarry

/-- After an exact binary sum of two decimal bytes, `DAA` corrects a digit just where the decimal sum has a carry out of it: the low
digit where the two low digits come to more than 9, the high digit where the whole comes to more than 99. -/
theorem daa8_of_add (hn : f.n = false) (hbyte : r.toNat + 256 * f.c.toNat = a.toNat + v.toNat + carry)
    (hnibble : r.toNat % 16 + 16 * f.h.toNat = a.toNat % 16 + v.toNat % 16 + carry) :
    isBcd (daa8 r f).1 = true ∧
      bcdValue (daa8 r f).1 + 100 * (daa8 r f).2.c.toNat = bcdValue a + bcdValue v + carry := by
  rw [isBcd_iff] at ha hv ⊢
  have hr := r.isLt
  have hc := f.c.toNat_le
  have hh := f.h.toNat_le
  have hlow : (f.h = true ∨ lowNibble r > 0x09) ↔ a.toNat % 16 + v.toNat % 16 + carry > 9 := by
    rw [← Bool.toNat_eq_one]
    unfold lowNibble
    omega
  have hhigh : (f.c = true ∨ r.toNat > 0x99) ↔ bcdValue a + bcdValue v + carry > 99 := by
    rw [← Bool.toNat_eq_one]
    unfold bcdValue
    omega
  have hcarryOut : (daa8 r f).2.c = decide (bcdValue a + bcdValue v + carry > 99) := by
    rw [daa8_flags, hn, ← decide_eq_decide.mpr hhigh, Bool.decide_or, Bool.decide_eq_true]
    rfl
  have hresult : (daa8 r f).1.toNat = (r.toNat + ((if a.toNat % 16 + v.toNat % 16 + carry > 9 then 0x06 else 0) +
      (if bcdValue a + bcdValue v + carry > 99 then 0x60 else 0))) % 256 := by
    rw [daa8_result, hn]
    simp [daaAddAdjust, hlow, hhigh]
  rw [hcarryOut]
  unfold bcdValue at *
  rw [hresult, Bool.toNat, Bool.cond_decide]
  split_ifs <;> omega

/-- After an exact binary difference, each borrow took 16 from its digit where the decimal difference takes 10, and `DAA` takes away
the 6 that is left over. -/
theorem daa8_of_sub (hn : f.n = true) (hbyte : r.toNat + v.toNat + carry = a.toNat + 256 * f.c.toNat)
    (hnibble : r.toNat % 16 + v.toNat % 16 + carry = a.toNat % 16 + 16 * f.h.toNat) :
    isBcd (daa8 r f).1 = true ∧
      bcdValue (daa8 r f).1 + bcdValue v + carry = bcdValue a + 100 * (daa8 r f).2.c.toNat := by
  rw [isBcd_iff] at ha hv ⊢
  have hr := r.isLt
  have hc := Nat.le_one_iff_eq_zero_or_eq_one.mp f.c.toNat_le
  have hh := Nat.le_one_iff_eq_zero_or_eq_one.mp f.h.toNat_le
  have hcarryOut : (daa8 r f).2.c = f.c := by
    rw [daa8_flags, hn]
    exact Bool.or_false _
  have hresult : (daa8 r f).1.toNat + (0x06 * f.h.toNat + 0x60 * f.c.toNat) = r.toNat := by
    rw [daa8_result, hn, if_pos rfl, daaSubAdjust_eq, BitVec.toNat_sub, BitVec.toNat_ofNat]
    omega
  rw [hcarryOut]
  unfold bcdValue
  omega

end

/-- Settles O45: the sums and differences of the ALU are exact, which is what `DAA` needs to correct them. -/
theorem daaGivesDecimalResults : Obligations.DaaGivesDecimalResults := by
  refine fun a v c ha hv => ⟨fun op hop => ?_, fun op hop => ?_⟩
  · obtain rfl | rfl := hop
    · exact daa8_of_add ha hv (Nat.zero_le 1) rfl (adc8_byte_exact a v false) (adc8_nibble_exact a v false)
    · exact daa8_of_add ha hv c.toNat_le rfl (adc8_byte_exact a v c) (adc8_nibble_exact a v c)
  · obtain rfl | rfl := hop
    · exact daa8_of_sub ha hv (Nat.zero_le 1) rfl (sub8_byte_exact a v) (sub8_nibble_exact a v)
    · exact daa8_of_sub ha hv c.toNat_le rfl (sbc8_byte_exact a v c) (sbc8_nibble_exact a v c)

end Sys2Proof.Machine
end

section
/-! SUPPORT. Proofs: the 16-bit arithmetic (O46). -/

namespace Sys2Proof.Machine

/-! ## What the operations write -/

/-- The narrowed natural-number sum of rule R220 is the sum of words. -/
theorem add16_eq (a v : Word) (f : Flags) : add16 a v f = (a + v,
    { z := f.z, n := false, h := decide (a.toNat % 4096 + v.toNat % 4096 > 0x0FFF), c := decide (a.toNat + v.toNat > 0xFFFF) }) := by
  rw [BitVec.add_def]
  rfl

theorem addHl_eq (p : R16) (g : GameBoy) : addHl p g = { g.setR16 .hl (g.hl + g.r16 p) with
    f := { z := g.f.z, n := false, h := decide (g.hl.toNat % 4096 + (g.r16 p).toNat % 4096 > 0x0FFF),
           c := decide (g.hl.toNat + (g.r16 p).toNat > 0xFFFF) }, cycles := 8 } := by
  unfold addHl
  rw [add16_eq]
  rfl

/-! ## The instructions -/

theorem exec_addHLrr (p : R16) : exec (Instr.addHLrr p) = gbNext (addHl p) := by cases p <;> rfl

theorem exec_incRR (p : R16) : exec (Instr.incRR p) = gbNext (incPair p) := by cases p <;> rfl

theorem exec_decRR (p : R16) : exec (Instr.decRR p) = gbNext (decPair p) := by cases p <;> rfl

/-- Settles O46: each instruction writes one pair or `SP`, and some the flags, none of which a read sees. -/
theorem arithmetic16 : Obligations.Arithmetic16 := by
  refine fun s => ⟨fun p => ?_, fun p => ?_, fun p => ?_, fun e => ?_⟩
  · exact runsStoringNothing_of_eq (exec_addHLrr p) (addHl_eq p s.gb) (s.gb.memRead_setR16 .hl (s.gb.hl + s.gb.r16 p))
  · exact runsStoringNothing_of_gbNext (exec_incRR p) (s.gb.memRead_setR16 p (s.gb.r16 p + 1))
  · exact runsStoringNothing_of_gbNext (exec_decRR p) (s.gb.memRead_setR16 p (s.gb.r16 p - 1))
  · exact runsStoringNothing_of_gbNext (f := addSpE e) rfl (s.gb.memRead_setR16 .sp (s.gb.spPlus e))

end Sys2Proof.Machine
end

section
/-! SUPPORT. Proofs: the forms of the rotates and shifts (O47), and what they do to each bit (O48). -/

namespace Sys2Proof.Machine

/-! ## The forms -/

theorem exec_shiftOp (op : ShiftOp) (x : Operand) : exec (Instr.shiftOp op x) = gbNext (shiftOperand op x) := by
  unfold Instr.shiftOp; split <;> rfl

theorem shiftOperand_eq (op : ShiftOp) (x : Operand) (g : GameBoy) :
    shiftOperand op x g = { g.put x (shiftResult op (g.get x) g.f.c).1 with
      f := { z := decide ((shiftResult op (g.get x) g.f.c).1 = 0), n := false, h := false,
             c := (shiftResult op (g.get x) g.f.c).2 }, cycles := operandCost x 8 16 } := rfl

/-- Settles O47: a rotate of `A` and a register form write registers, which no read sees; the form at `HL` is one byte write there. -/
theorem rotateAndShiftForms : Obligations.RotateAndShiftForms := by
  refine fun s => ⟨fun p hp => ?_, fun op r => ?_, ?_⟩
  · have hx : exec p.1 = gbNext (rotateA p.2) := by
      simp only [List.mem_cons, List.not_mem_nil, or_false] at hp
      obtain rfl | rfl | rfl | rfl := hp <;> rfl
    exact runsStoringNothing_of_gbNext hx fun _ _ => rfl
  · exact runsStoringNothing_of_eq (exec_shiftOp op (.reg r)) (shiftOperand_eq _ _ _) (s.gb.memRead_setR8 r _)
  · rintro op v rfl
    exact runsStoring_of_eq (exec_shiftOp op .atHL) (shiftOperand_eq _ _ _) _ fun _ _ => rfl

/-! ## The bits

`RL` and `RR` shift by one place and take the carry in at the free end. The other shifts by one place are these two with another bit taken
in: the one shifted out (`RLC`, `RRC`), 0 (`SLA`, `SRL`) or the sign (`SRA`). -/

theorem getElem_bitByte (b : Bool) {k : Nat} (hk : k < 8) : (bitByte b)[k] = (decide (k = 0) && b) := by
  cases b <;> simp [bitByte]

section
variable (v : Byte) (c : Bool)

theorem shiftResult_rlc : (shiftResult .rlc v c).1 = (shiftResult .rl v (v.getLsbD 7)).1 := rfl

theorem shiftResult_rrc : (shiftResult .rrc v c).1 = (shiftResult .rr v (v.getLsbD 0)).1 := rfl

theorem shiftResult_sla : (shiftResult .sla v c).1 = (shiftResult .rl v false).1 := BitVec.or_zero.symm

theorem shiftResult_srl : (shiftResult .srl v c).1 = (shiftResult .rr v false).1 := BitVec.or_zero.symm

theorem shiftResult_sra : (shiftResult .sra v c).1 = (shiftResult .rr v (v.getLsbD 7)).1 := by
  have hsign : v &&& (0x80 : Byte) = bitByte (v.getLsbD 7) <<< 7 := by
    revert v
    decide
  simp only [shiftResult, hsign]

variable {k : Nat} (hk : k < 8)
include hk

theorem shiftResult_rl_getLsbD : (shiftResult .rl v c).1.getLsbD k = if k = 0 then c else v.getLsbD (k - 1) := by
  cases k with
  | zero => simp [shiftResult, getElem_bitByte]
  | succ j =>
    have hj : j < 8 := Nat.lt_of_succ_lt hk
    simp [shiftResult, getElem_bitByte, hk, hj]

theorem shiftResult_rr_getLsbD : (shiftResult .rr v c).1.getLsbD k = if k = 7 then c else v.getLsbD (k + 1) := by
  obtain rfl | hlt : k = 7 ∨ k < 7 := by omega
  · simp [shiftResult, getElem_bitByte]
  · simp [shiftResult, hlt, hlt.ne, Nat.add_comm]

theorem shiftResult_swap_getLsbD : (shiftResult .swap v c).1.getLsbD k = v.getLsbD ((k + 4) % 8) := by
  interval_cases k <;> simp [shiftResult]

end

/-- Settles O48, by the bits of `RL`, `RR` and `SWAP`. -/
theorem rotateAndShiftBits : Obligations.RotateAndShiftBits := by
  intro v c k hk
  refine ⟨⟨?_, rfl⟩, ⟨?_, rfl⟩, ⟨?_, rfl⟩, ⟨?_, rfl⟩, ⟨?_, rfl⟩, ⟨?_, rfl⟩, ⟨?_, rfl⟩, ⟨?_, rfl⟩⟩
  · have hprev : (k + 7) % 8 = if k = 0 then 7 else k - 1 := by split <;> omega
    rw [shiftResult_rlc, shiftResult_rl_getLsbD _ _ hk, hprev, apply_ite v.getLsbD]
  · have hnext : (k + 1) % 8 = if k = 7 then 0 else k + 1 := by split <;> omega
    rw [shiftResult_rrc, shiftResult_rr_getLsbD _ _ hk, hnext, apply_ite v.getLsbD]
  · exact shiftResult_rl_getLsbD v c hk
  · exact shiftResult_rr_getLsbD v c hk
  · rw [shiftResult_sla, shiftResult_rl_getLsbD _ _ hk]
  · rw [shiftResult_sra, shiftResult_rr_getLsbD _ _ hk, apply_ite v.getLsbD]
  · exact shiftResult_swap_getLsbD v c hk
  · rw [shiftResult_srl, shiftResult_rr_getLsbD _ _ hk]

end Sys2Proof.Machine
end

section
/-! SUPPORT. Proofs: `BIT`, `RES` and `SET` (O49). -/

namespace Sys2Proof.Machine

/-! ## The operations the instructions mean -/

theorem exec_bitOp (b : Fin 8) (x : Operand) : exec (Instr.bitOp b x) = gbNext (bitTest b x) := by
  rcases x with ⟨⟨⟩⟩ | ⟨⟩ <;> fin_cases b <;> rfl

theorem exec_resOp (b : Fin 8) (x : Operand) : exec (Instr.resOp b x) = gbNext (bitReset b x) := by
  rcases x with ⟨⟨⟩⟩ | ⟨⟩ <;> fin_cases b <;> rfl

theorem exec_setOp (b : Fin 8) (x : Operand) : exec (Instr.setOp b x) = gbNext (bitSet b x) := by
  rcases x with ⟨⟨⟩⟩ | ⟨⟩ <;> fin_cases b <;> rfl

/-! ## The byte they write

A byte is fixed by its eight bits, and the mask is the byte with bit `b` alone. -/

theorem getLsbD_bitMask (b : Fin 8) {k : Nat} (hk : k < 8) : (bitMask b).getLsbD k = decide (k = b.val) := by
  have htwoPow : bitMask b = BitVec.twoPow 8 b.val := rfl
  simp [htwoPow, BitVec.getElem_twoPow, hk]

section
variable {b : Fin 8} {v w : Byte}

theorem eq_and_not_bitMask (hw : ∀ k, k < 8 → w.getLsbD k = (decide (k ≠ b.val) && v.getLsbD k)) :
    w = v &&& (0xFF ^^^ bitMask b) := by
  have hones : (0xFF : Byte) = BitVec.allOnes 8 := rfl
  refine BitVec.eq_of_getLsbD_eq fun k hk => ?_
  rw [hw k hk, hones, BitVec.allOnes_xor, BitVec.getLsbD_and, BitVec.getLsbD_not, getLsbD_bitMask b hk, decide_eq_true hk, decide_not,
    Bool.true_and, Bool.and_comm]

theorem eq_or_bitMask (hw : ∀ k, k < 8 → w.getLsbD k = (decide (k = b.val) || v.getLsbD k)) : w = v ||| bitMask b := by
  refine BitVec.eq_of_getLsbD_eq fun k hk => ?_
  rw [hw k hk, BitVec.getLsbD_or, getLsbD_bitMask b hk, Bool.or_comm]

end

section
variable {b : Fin 8} {x : Operand} {g : GameBoy} {w : Byte}

theorem bitReset_eq (hw : ∀ k, k < 8 → w.getLsbD k = (decide (k ≠ b.val) && (g.get x).getLsbD k)) :
    bitReset b x g = { g.put x w with cycles := operandCost x 8 16 } := by
  rw [eq_and_not_bitMask hw]
  rfl

theorem bitSet_eq (hw : ∀ k, k < 8 → w.getLsbD k = (decide (k = b.val) || (g.get x).getLsbD k)) :
    bitSet b x g = { g.put x w with cycles := operandCost x 8 16 } := by
  rw [eq_or_bitMask hw]
  rfl

end

/-- Settles O49: `BIT` writes only flags, a register form of `RES` or `SET` only a register, and no read sees either; their form at `HL`
is one byte write there. -/
theorem bitInstructions : Obligations.BitInstructions := by
  refine fun s b => ⟨fun r => ?_, ?_, fun r w hw => ?_, fun r w hw => ?_, fun w hw => ?_, fun w hw => ?_⟩
  · exact runsStoringNothing_of_gbNext (exec_bitOp b (.reg r)) fun _ _ => rfl
  · exact runsStoringNothing_of_gbNext (exec_bitOp b .atHL) fun _ _ => rfl
  · exact runsStoringNothing_of_eq (exec_resOp b (.reg r)) (bitReset_eq hw) (s.gb.memRead_setR8 r w)
  · exact runsStoringNothing_of_eq (exec_setOp b (.reg r)) (bitSet_eq hw) (s.gb.memRead_setR8 r w)
  · exact runsStoring_of_eq (exec_resOp b .atHL) (bitReset_eq hw) w fun _ _ => rfl
  · exact runsStoring_of_eq (exec_setOp b .atHL) (bitSet_eq hw) w fun _ _ => rfl

end Sys2Proof.Machine
end

section
/-! SUPPORT. Proofs: the jumps and the returns (O50). -/

namespace Sys2Proof.Machine

/-! ## The operations the conditional forms mean -/

theorem exec_jpCC (cc : Cond) (nn : Word) : exec (Instr.jpCC cc nn) = gbNext (jumpIf cc nn) := by cases cc <;> rfl

theorem exec_jrCC (cc : Cond) (e : Byte) : exec (Instr.jrCC cc e) = gbNext (jumpRelIf cc e) := by cases cc <;> rfl

theorem exec_retCC (cc : Cond) : exec (Instr.retCC cc) = gbNext (returnIf cc) := by cases cc <;> rfl

/-! ## Taken and not taken -/

theorem jumpIf_eq (cc : Cond) (nn : Word) (g : GameBoy) : jumpIf cc nn g =
    { g with pc := if g.cond cc then nn else g.pc, cycles := if g.cond cc then 16 else 12 } := by
  unfold jumpIf
  cases g.cond cc <;> rfl

theorem jumpRelIf_eq (cc : Cond) (e : Byte) (g : GameBoy) : jumpRelIf cc e g =
    { g with pc := if g.cond cc then g.pc + e.signExtend 16 else g.pc, cycles := if g.cond cc then 12 else 8 } := by
  unfold jumpRelIf
  cases g.cond cc <;> rfl

theorem returnIf_of_cond {cc : Cond} {g : GameBoy} (h : g.cond cc = true) : returnIf cc g = g.returnPc.spend 20 := if_pos h

theorem returnIf_of_not_cond {cc : Cond} {g : GameBoy} (h : g.cond cc = false) : returnIf cc g = g.spend 8 :=
  if_neg (Bool.eq_false_iff.mp h)

/-- Settles O50: each form writes `PC`, `SP`, `ime` or the cycle count, none of which a read sees; the target of a return is the value
that a pop takes. -/
theorem jumpsAndReturns : Obligations.JumpsAndReturns := by
  refine ⟨fun s => ⟨fun nn => ?_, fun cc nn => ?_, ?_, fun e => ?_, fun cc e => ?_⟩, ?_⟩
  · exact runsStoringNothing_of_gbNext (f := jump nn) rfl fun _ _ => rfl
  · exact runsStoringNothing_of_eq (exec_jpCC cc nn) (jumpIf_eq cc nn s.gb) fun _ _ => rfl
  · exact runsStoringNothing_of_gbNext (f := jumpHl) rfl fun _ _ => rfl
  · exact runsStoringNothing_of_gbNext (f := jumpRel e) rfl fun _ _ => rfl
  · exact runsStoringNothing_of_eq (exec_jrCC cc e) (jumpRelIf_eq cc e s.gb) fun _ _ => rfl
  · rintro s _ rfl
    refine ⟨?_, fun cc h => ?_, fun cc h => ?_, ?_⟩
    · exact runsStoringNothing_of_gbNext (f := returnAlways) rfl fun _ _ => rfl
    · exact runsStoringNothing_of_eq (exec_retCC cc) (returnIf_of_cond h) fun _ _ => rfl
    · exact runsStoringNothing_of_eq (exec_retCC cc) (returnIf_of_not_cond h) fun _ _ => rfl
    · exact runsStoringNothing_of_gbNext (f := returnInterrupt) rfl fun _ _ => rfl

end Sys2Proof.Machine
end

section
/-! SUPPORT. Proofs: a CPU halted for good stays so (O14), and what a halted step and an interrupt entry do (O9, O10). -/

namespace Sys2Proof.Machine

/-! ## The loop over lines -/

/-- What holds before the loop over lines and at the end of each line holds after it (rule R413). -/
theorem GameBoy.lineLoop_induction {P : GameBoy → Prop} (hstep : ∀ g, P g → P g.lineEnd) (turns : Nat) {g : GameBoy} (h : P g) :
    P (g.lineLoop turns) := by
  induction turns generalizing g with
  | zero => exact h
  | succ k ih =>
    unfold GameBoy.lineLoop
    split
    · exact ih (hstep g h)
    · exact h

/-- With `LCDC.7` clear an advance does nothing (rule R413). -/
theorem GameBoy.ppuAdvance_off {g : GameBoy} (h : g.lcdc.getLsbD 7 = false) (n : Nat) : g.ppuAdvance n = g :=
  if_neg (Bool.eq_false_iff.mp h)

/-- What ignores the counter and is kept at the end of each line is kept by an advance (rule R413). -/
theorem GameBoy.ppuAdvance_induction {P : GameBoy → Prop} (hcount : ∀ g n, P g → P { g with scanlineCounter := n })
    (hstep : ∀ g, P g → P g.lineEnd) (n : Nat) {g : GameBoy} (h : P g) : P (g.ppuAdvance n) := by
  unfold GameBoy.ppuAdvance
  split
  · exact GameBoy.lineLoop_induction hstep _ (hcount g _ h)
  · exact h

theorem GameBoy.cpuState_ppuAdvance (n : Nat) (g : GameBoy) : (g.ppuAdvance n).cpuState = g.cpuState :=
  GameBoy.ppuAdvance_induction (P := fun g' => g'.cpuState = g.cpuState) (fun _ _ h => h)
    (fun g' h => (GameBoy.lineEnd_keeps GameBoy.cpuState (fun _ _ _ _ _ => rfl) g').trans h) n rfl

/-! ## Halted for good -/

theorem GameBoy.wakePending_eq_false_iff (g : GameBoy) : g.wakePending = false ↔ g.ifReg &&& g.ieReg = 0 := bne_eq_false_iff_eq

theorem GameBoy.wakePending_iff (g : GameBoy) : g.wakePending = true ↔ g.ifReg &&& g.ieReg ≠ 0 := bne_iff_ne

/-- The halt of rule R463 that the VBlank request cannot end, since its enable bit is clear. -/
structure GameBoy.DeafHalt (g : GameBoy) : Prop where
  canonical : Memory.wf busInit g.mem = true
  halted : g.halted = true
  noRequest : g.ifReg &&& g.ieReg = 0
  vblankDisabled : g.ieReg.getLsbD 0 = false

/-- The VBlank request adds bit 0 to `IF` alone, which a clear enable bit masks. -/
theorem or_one_and_of_bit0 {requests enabled : Byte} (h : enabled.getLsbD 0 = false) :
    (requests ||| 0x01) &&& enabled = requests &&& enabled := by
  have hmask : 0x01 &&& enabled = 0 := by
    revert enabled
    decide
  rw [BitVec.and_or_distrib_right, hmask]
  exact BitVec.or_zero

/-- The end of a line sets bit 0 of `IF` or leaves it alone (rule R413). -/
theorem GameBoy.ifReg_lineEnd {g : GameBoy} (hw : Memory.wf busInit g.mem = true) :
    g.lineEnd.ifReg = if nextLine g.ly = 144 then g.ifReg ||| 0x01 else g.ifReg := by
  refine (GameBoy.cell_lineEnd hw 0xFF0F).trans ((if_neg (by decide)).trans ?_)
  simp only [true_and]
  rfl

theorem GameBoy.DeafHalt.lineEnd {g : GameBoy} (h : g.DeafHalt) : g.lineEnd.DeafHalt := by
  obtain ⟨hw, hhalted, hrequest, hdisabled⟩ := h
  have hie : g.lineEnd.ieReg = g.ieReg := GameBoy.cell_lineEnd hw 0xFFFF
  refine ⟨GameBoy.wf_lineEnd hw, ?_, ?_, hie ▸ hdisabled⟩
  · exact (GameBoy.lineEnd_keeps GameBoy.halted (fun _ _ _ _ _ => rfl) g).trans hhalted
  · rw [hie, GameBoy.ifReg_lineEnd hw]
    split
    · rw [or_one_and_of_bit0 hdisabled, hrequest]
    · exact hrequest

/-- An advance of the PPU cannot wake a CPU halted for good (rule R463). -/
theorem GameBoy.haltedForGood_ppuAdvance {g : GameBoy} (hw : Memory.wf busInit g.mem = true) (h : g.haltedForGood) (n : Nat) :
    (g.ppuAdvance n).haltedForGood := by
  obtain ⟨hhalted, hpending, hagent⟩ := h
  by_cases hoff : g.lcdc.getLsbD 7 = false
  · rw [GameBoy.ppuAdvance_off hoff]
    exact ⟨hhalted, hpending, hagent⟩
  · have hdeaf : g.DeafHalt := ⟨hw, hhalted, g.wakePending_eq_false_iff.mp hpending, hagent.resolve_right hoff⟩
    obtain ⟨-, hhalted', hrequest, hdisabled⟩ := GameBoy.ppuAdvance_induction (P := GameBoy.DeafHalt)
      (fun _ _ ⟨hw, hh, hr, hd⟩ => ⟨hw, hh, hr, hd⟩) (fun _ => GameBoy.DeafHalt.lineEnd) n hdeaf
    exact ⟨hhalted', (GameBoy.wakePending_eq_false_iff _).mpr hrequest, .inl hdisabled⟩

/-- A halted CPU without an enabled request waits (rule R402). -/
theorem cpuStep_wait {s : State} (hh : s.gb.halted = true) (hp : s.gb.wakePending = false) :
    cpuStep s = .next { s with gb := haltedWait s.gb } := by
  simp only [cpuStep, hh, hp, if_true, if_false, Bool.false_eq_true]
  rfl

theorem gb_gbTurnEnd (s : State) : (gbTurnEnd s).gb = advancePpu s.gb := by
  unfold gbTurnEnd gbTickStep
  split <;> rfl

/-- A turn of the Game Boy machine leaves a CPU halted for good as it is (rules R402, R463). -/
theorem gbTurn_haltedForGood {s : State} (hw : Memory.wf busInit s.gb.mem = true) (h : s.gb.haltedForGood) :
    ∃ t, gbTurn s = .next t ∧ t.gb.haltedForGood ∧ t.gb.cpuState = s.gb.cpuState := by
  unfold gbTurn
  split
  · exact ⟨_, rfl, h, rfl⟩
  split
  · exact ⟨_, rfl, h, rfl⟩
  have ⟨hhalted, hpending, _⟩ := h
  obtain ⟨frame, error, he⟩ := gbTurnStart_eq s
  rw [he, cpuStep_wait (by exact hhalted) (by exact hpending)]
  refine ⟨_, rfl, ?_, ?_⟩ <;> rw [gb_gbTurnEnd]
  · exact GameBoy.haltedForGood_ppuAdvance (g := haltedWait { s.gb with frameReady := frame }) hw h 4
  · exact GameBoy.cpuState_ppuAdvance 4 (haltedWait { s.gb with frameReady := frame })

/-- So does a step, with no host call to come, and it stays on the Game Boy machine. -/
theorem step_haltedForGood {s : State} (hi : s.Inv) (ha : s.active = .gameBoy) (hc : s.hostCalls = []) (h : s.gb.haltedForGood) :
    ∃ t, step s = .next t ∧ (t.Inv ∧ t.active = .gameBoy ∧ t.hostCalls = []) ∧ t.gb.haltedForGood ∧
      t.gb.cpuState = s.gb.cpuState := by
  obtain ⟨t, ht, hgood, hcpu⟩ := gbTurn_haltedForGood hi.gb.memCanonical h
  have hstep : step s = .next t := by
    rw [step, schedulerTurn_noEvent s (.inr hc), machineTurn, ha]
    exact ht
  obtain ⟨-, hcalls, -, -, -, -, -, -, -, hactive⟩ := State.hostSide_fields (gbTurn_hostSide ht)
  exact ⟨t, hstep, ⟨stepKeepsInvariant s t hi hstep, hactive.trans ha, hcalls.trans hc⟩, hgood, hcpu⟩

/-- A run goes on from the next state. -/
theorem run_succ_of_next {M : Host.Core} {s t : M.State} (h : M.step s = .next t) (k : Nat) : M.run (k + 1) s = M.run k t := by
  rw [Host.Core.run, h]

/-- Settles O14, by induction on the number of steps: each is a halted wait, or a turn that only records its outcome. -/
theorem haltedForGoodIsFinal : Obligations.HaltedForGoodIsFinal := by
  intro k
  induction k with
  | zero => exact fun s _ _ _ h => ⟨s, rfl, h, rfl⟩
  | succ k ih =>
    intro s hi ha hc h
    obtain ⟨t, hstep, ⟨hi', ha', hc'⟩, hgood, hcpu⟩ := step_haltedForGood hi ha hc h
    obtain ⟨u, hrun, hgood', hcpu'⟩ := ih t hi' ha' hc' hgood
    exact ⟨u, (run_succ_of_next (M := Sys2Proof.core) hstep k).trans hrun, hgood', hcpu'.trans hcpu⟩

/-! ## Halted steps and interrupt entry -/

/-- A halted CPU with an enabled request goes on as an awake one (rule R403, decision D5). -/
theorem cpuStep_wakes {s : State} (hh : s.gb.halted = true) (hp : s.gb.wakePending = true) :
    cpuStep s = cpuStep { s with gb := wake s.gb } := by
  simp only [cpuStep, hh, hp, if_true]
  rfl

/-- Settles O9: without an enabled request the CPU step is the halted wait, and otherwise the step of the woken CPU. -/
theorem haltedStepWaitsOrWakes : Obligations.HaltedStepWaitsOrWakes := by
  intro s hh
  simp only [← GameBoy.wakePending_eq_false_iff, ← GameBoy.wakePending_iff]
  refine ⟨cpuStep_wait hh, fun hp ht hrom => ?_, cpuStep_wakes hh⟩
  obtain ⟨frame, error, he⟩ := gbTurnStart_eq s
  rw [step_of_gbTurn ht hrom, he, cpuStep_wait (by exact hh) (by exact hp)]
  rfl

/-- An awake CPU takes the VBlank interrupt when it is pending (rule R405). -/
theorem cpuStep_interrupt {s : State} (hv : s.cfg.irqVectoring = .vblank) (hh : s.gb.halted = false)
    (hp : s.gb.vblankPending = true) : cpuStep s = gbNext GameBoy.interruptEntry s := by
  simp only [cpuStep, hh, interruptOrInstr, hv, hp, and_self, if_true, if_false, Bool.false_eq_true]

theorem interruptEntry_eq (g : GameBoy) : g.interruptEntry =
    { (({ g with ime := false } : GameBoy).memWrite 0xFF0F (g.ifReg &&& 0xFE)).push16 g.pc with pc := 0x0040, cycles := 20 } := by
  unfold GameBoy.interruptEntry
  simp only [GameBoy.memWrite_pc]
  rfl

/-- Settles O10: the pending request also wakes a halted CPU, and the woken CPU enters the interrupt. -/
theorem interruptEntry : Obligations.InterruptEntry := by
  intro s hv hime hif hie
  have hbit : (s.gb.ifReg &&& s.gb.ieReg).getLsbD 0 = true := by rw [BitVec.getLsbD_and, hif, hie]; rfl
  have hvblank : s.gb.vblankPending = true := by rw [GameBoy.vblankPending, hime, hbit]; rfl
  have hpending : s.gb.wakePending = true := s.gb.wakePending_iff.mpr fun h => by simp [h] at hbit
  have hawake : cpuStep s = cpuStep { s with gb := wake s.gb } := by
    cases hh : s.gb.halted with
    | true => exact cpuStep_wakes hh hpending
    | false => rw [wake, ← hh]
  rw [hawake, cpuStep_interrupt (s := { s with gb := wake s.gb }) hv rfl hvblank, gbNext, interruptEntry_eq]
  rfl

end Sys2Proof.Machine
end

section
/-! SUPPORT. Proofs: the PPU sees only the sum of its cycles (O33), and the pixels of a rendered line (O34). -/

namespace Sys2Proof.Machine

/-! ## The sum of cycles -/

/-- The scanline counter moved on (rule R413). -/
def GameBoy.addCycles (n : Nat) (g : GameBoy) : GameBoy := { g with scanlineCounter := g.scanlineCounter + n }

/-- Every line that the counter has completed is ended: the whole loop of rule R413. -/
def GameBoy.endLines (g : GameBoy) : GameBoy := g.lineLoop (g.scanlineCounter / Config.lineCycles)

theorem GameBoy.ppuAdvance_on {g : GameBoy} (h : g.lcdc.getLsbD 7 = true) (n : Nat) : g.ppuAdvance n = (g.addCycles n).endLines :=
  if_pos h

theorem GameBoy.endLines_of_lt {g : GameBoy} (h : g.scanlineCounter < Config.lineCycles) : g.endLines = g := by
  rw [GameBoy.endLines, Nat.div_eq_of_lt h, GameBoy.lineLoop]

theorem GameBoy.endLines_of_le {g : GameBoy} (h : Config.lineCycles ≤ g.scanlineCounter) : g.endLines = g.lineEnd.endLines := by
  have hturns : g.scanlineCounter / Config.lineCycles = (g.scanlineCounter - Config.lineCycles) / Config.lineCycles + 1 :=
    Nat.div_eq_sub_div (by decide) h
  rw [GameBoy.endLines, hturns, GameBoy.lineLoop, if_pos h, ← GameBoy.lineEnd_counter, ← GameBoy.endLines]

theorem GameBoy.renderScanline_addCycles (line n : Nat) (g : GameBoy) :
    (g.addCycles n).renderScanline line = (g.renderScanline line).addCycles n := by
  unfold GameBoy.renderScanline
  generalize List.range 160 = columns
  induction columns generalizing g with
  | nil => rfl
  | cons col rest ih => exact ih (GameBoy.drawPixel line g col)

/-- Cycles beyond the completed line are carried through its end. -/
theorem GameBoy.lineEnd_addCycles {g : GameBoy} (h : Config.lineCycles ≤ g.scanlineCounter) (n : Nat) :
    (g.addCycles n).lineEnd = g.lineEnd.addCycles n := by
  have hvisible : (g.addCycles n).renderVisible = g.renderVisible.addCycles n := by
    have hc : { g.addCycles n with scanlineCounter := (g.addCycles n).scanlineCounter - Config.lineCycles } =
        GameBoy.addCycles n { g with scanlineCounter := g.scanlineCounter - Config.lineCycles } :=
      congrArg (fun k => { g with scanlineCounter := k }) (Nat.sub_add_comm h)
    unfold GameBoy.renderVisible
    rw [hc, GameBoy.renderScanline_addCycles, apply_ite (GameBoy.addCycles n)]
    rfl
  rw [GameBoy.lineEnd_eq, GameBoy.lineEnd_eq, hvisible]
  unfold GameBoy.nextLineRequest
  rw [apply_ite (GameBoy.addCycles n)]
  rfl

/-- Ending the completed lines before more cycles come changes nothing about where they lead. -/
theorem GameBoy.endLines_addCycles (n : Nat) (g : GameBoy) : (g.endLines.addCycles n).endLines = (g.addCycles n).endLines := by
  induction hc : g.scanlineCounter using Nat.strongRecOn generalizing g with
  | _ c ih =>
    by_cases h : Config.lineCycles ≤ g.scanlineCounter
    · have hless : g.lineEnd.scanlineCounter < c := by
        rw [GameBoy.lineEnd_counter]
        unfold Config.lineCycles at *
        omega
      have hmore : Config.lineCycles ≤ (g.addCycles n).scanlineCounter := Nat.le_add_right_of_le h
      rw [GameBoy.endLines_of_le h, ih _ hless g.lineEnd rfl, GameBoy.endLines_of_le hmore, GameBoy.lineEnd_addCycles h]
    · rw [GameBoy.endLines_of_lt (Nat.lt_of_not_le h)]

/-- The PPU never writes `LCDC` (rule R413). -/
theorem GameBoy.lcdc_ppuAdvance {g : GameBoy} (hw : Memory.wf busInit g.mem = true) (n : Nat) : (g.ppuAdvance n).lcdc = g.lcdc :=
  (GameBoy.ppuAdvance_induction (P := fun g' => Memory.wf busInit g'.mem = true ∧ g'.lcdc = g.lcdc) (fun _ _ h => h)
    (fun _ ⟨hw', h⟩ => ⟨GameBoy.wf_lineEnd hw', (GameBoy.cell_lineEnd hw' 0xFF40).trans h⟩) n ⟨hw, rfl⟩).2

/-- Settles O33: with the LCD on both sides end the completed lines of one count, and with it off neither does anything. -/
theorem ppuAdvanceAddsUp : Obligations.PpuAdvanceAddsUp := by
  intro g m n hw
  have hlcdc := GameBoy.lcdc_ppuAdvance hw m
  cases hon : g.lcdc.getLsbD 7 with
  | true =>
    rw [GameBoy.ppuAdvance_on (hlcdc ▸ hon), GameBoy.ppuAdvance_on hon, GameBoy.ppuAdvance_on hon, GameBoy.endLines_addCycles]
    unfold GameBoy.addCycles
    simp only [Nat.add_assoc]
  | false => rw [GameBoy.ppuAdvance_off (hlcdc ▸ hon), GameBoy.ppuAdvance_off hon, GameBoy.ppuAdvance_off hon]

/-! ## The pixels of a line -/

/-- The columns drawn so far show their shades, and every other cell is as it was. -/
theorem GameBoy.read_drawPixels {g : GameBoy} (hw : Memory.wf pixelInit g.framebuffer = true) (line n k : Nat) :
    Memory.read pixelInit ((List.range n).foldl (GameBoy.drawPixel line) g).framebuffer k =
      if pixelIndex line 0 ≤ k ∧ k < pixelIndex line n then g.shade line (k - pixelIndex line 0)
      else Memory.read pixelInit g.framebuffer k := by
  induction n with
  | zero => rw [if_neg (by omega)]; rfl
  | succ n ih =>
    have hmem := GameBoy.drawPixels_keeps GameBoy.mem (fun _ _ => rfl) line (List.range n) g
    rw [List.range_succ, List.foldl_append, List.foldl_cons, List.foldl_nil, GameBoy.drawPixel_framebuffer,
      Memory.read_write (GameBoy.wf_drawPixels hw line _), ih, GameBoy.shade_congr hmem]
    by_cases hk : k = pixelIndex line n <;> unfold pixelIndex at hk ⊢
    · rw [if_pos hk, if_pos (by omega), hk, Nat.add_sub_add_left, Nat.sub_zero]
    · rw [if_neg hk]
      exact if_congr (by omega) rfl rfl

/-- A rendered line, cell by cell: its own columns show their shades, every other line is as it was (rule R414). -/
theorem GameBoy.fbCell_renderScanline {g : GameBoy} (hw : Memory.wf pixelInit g.framebuffer = true) (line line' : Nat) {col : Nat}
    (hcol : col < 160) :
    (g.renderScanline line).fbCell line' col = if line' = line then g.shade line col else g.fbCell line' col := by
  refine (GameBoy.read_drawPixels hw line 160 _).trans ?_
  unfold pixelIndex
  by_cases h : line' = line
  · rw [if_pos h, if_pos (by omega), h]
    congr 1
    omega
  · rw [if_neg h, if_neg (by omega)]
    rfl

/-- A tile's bytes start at its unsigned or signed number from the base that `LCDC.4` selects (rules R414, R416). -/
theorem tileAddr_eq (lcdc idx : Byte) : (tileAddr lcdc idx : Int) =
    if lcdc.getLsbD 4 then (0x8000 + idx.toNat * 16 : Int) else 0x9000 + idx.toInt * 16 := by
  have hidx := idx.isLt
  unfold tileAddr
  split
  · rfl
  · rw [BitVec.toInt_eq_toNat_cond]
    split <;> split <;> omega

theorem palette_eq_extractLsb (bgp : Byte) (i : Nat) : palette bgp i = bgp.extractLsb' (2 * i) 2 := by
  refine BitVec.eq_of_getLsbD_eq fun k hk => ?_
  simp [palette, hk]

/-- The colour index with the tile's address as a signed number (rule R414). -/
theorem GameBoy.colourIndex_eq (g : GameBoy) (x y : Nat) : g.colourIndex x y =
    let idx := g.cell ((if g.lcdc.getLsbD 3 then 0x9C00 else 0x9800) + y / 8 * 32 + x / 8)
    let tile : Int := if g.lcdc.getLsbD 4 then 0x8000 + idx.toNat * 16 else 0x9000 + idx.toInt * 16
    let b1 := g.cell (tile + 2 * (y % 8)).toNat
    let b2 := g.cell (tile + 2 * (y % 8) + 1).toNat
    2 * (b2.getLsbD (7 - x % 8)).toNat + (b1.getLsbD (7 - x % 8)).toNat := by
  have hlow (t : Nat) : ((t : Int) + 2 * (y % 8)).toNat = t + 2 * (y % 8) := by omega
  have hhigh (t : Nat) : ((t : Int) + 2 * (y % 8) + 1).toNat = t + 2 * (y % 8) + 1 := by omega
  simp only [← tileAddr_eq, hlow, hhigh]
  rfl

/-- Settles O34: the columns are drawn one after the other, and no shade depends on the framebuffer. -/
theorem scanlinePixels : Obligations.ScanlinePixels := by
  intro g line _ hw
  refine ⟨fun col hcol => ?_, fun line' col hcol hne => ?_, ?_⟩
  · rw [GameBoy.fbCell_renderScanline hw line line hcol, if_pos rfl, GameBoy.shade]
    split
    · simp only [palette_eq_extractLsb, GameBoy.colourIndex_eq]
    · rfl
  · rw [GameBoy.fbCell_renderScanline hw line line' hcol, if_neg hne]
  · exact GameBoy.renderScanline_keeps (fun g' => { g' with framebuffer := g.framebuffer }) (fun _ _ => rfl) line g

end Sys2Proof.Machine
end

section
/-! SUPPORT. Proofs: every step completes (O12), every frame tick ends within its bound (O13), and the host's events (O24). -/

namespace Sys2Proof.Machine

/-! ## Every step completes -/

/-- A next state or, under the policy `fault` alone, the stop of an undefined first byte (rules R286, R400). -/
def Result.trapFree (policy : UndefPolicy) (r : Result) : Prop :=
  (∃ t, r = .next t) ∨ policy = .fault ∧ ∃ op address, r = .fault (.undefinedOpcode op address)

theorem Result.trapFree_next (policy : UndefPolicy) (t : State) : Result.trapFree policy (.next t) := .inl ⟨t, rfl⟩

theorem Result.trapFree.onNext {policy : UndefPolicy} {r : Result} (h : Result.trapFree policy r) (f : State → State) :
    Result.trapFree policy (onNext r f) := by
  obtain ⟨t, rfl⟩ | ⟨hp, op, address, rfl⟩ := h
  · exact Result.trapFree_next policy (f t)
  · exact .inr ⟨hp, op, address, rfl⟩

/-- No instruction traps (rule R400): its meaning is an operation, or the answer to an undefined first byte. -/
theorem exec_trapFree (i : Instr) (s : State) : Result.trapFree s.cfg.undefPolicy (exec i s) := by
  have hm := exec_meaning i
  generalize i.machine = machine at hm
  generalize exec i = meaning at hm
  cases hm with
  | gameBoy | chip8 => exact Result.trapFree_next _ _
  | undefinedByte op =>
    unfold undefined
    cases hp : s.cfg.undefPolicy with
    | skip => exact Result.trapFree_next _ _
    | fault => exact .inr ⟨rfl, op, _, rfl⟩

theorem interruptOrInstr_trapFree (s : State) : Result.trapFree s.cfg.undefPolicy (interruptOrInstr s) := by
  unfold interruptOrInstr
  split
  · exact Result.trapFree_next _ _
  · exact exec_trapFree s.gb.fetchInstr.1 { s with gb := s.gb.skipBytes s.gb.fetchInstr.2 }

theorem cpuStep_trapFree (s : State) : Result.trapFree s.cfg.undefPolicy (cpuStep s) := by
  unfold cpuStep
  split
  · split
    · exact interruptOrInstr_trapFree { s with gb := wake s.gb }
    · exact Result.trapFree_next _ _
  · exact interruptOrInstr_trapFree s

theorem gbTurn_trapFree (s : State) : Result.trapFree s.cfg.undefPolicy (gbTurn s) := by
  unfold gbTurn
  split
  · exact Result.trapFree_next _ _
  split
  · exact Result.trapFree_next _ _
  obtain ⟨frame, error, he⟩ := gbTurnStart_eq s
  rw [he]
  exact (cpuStep_trapFree { s with gb := { s.gb with frameReady := frame }, hostError := error }).onNext _

/-- A CHIP-8 step always completes, and changes the CHIP-8 machine alone (rules R3, R302, R303). -/
theorem ch8Step_next (s : State) : ∃ c, ch8Step s = .next { s with ch8 := c } := by
  unfold ch8Step
  split
  · exact ⟨s.ch8, rfl⟩
  split
  · next i hd =>
    have hm := exec_meaning i
    obtain ⟨hchip8, -⟩ := isWord_of_decodeCh8 hd
    rw [hchip8] at hm
    obtain ⟨f, -, he⟩ := hm.chip8_next { s with ch8 := s.ch8.advance }
    exact ⟨_, he⟩
  · exact ⟨_, rfl⟩

theorem ch8Turn_next (s : State) : ∃ t, ch8Turn s = .next t := by
  unfold ch8Turn
  split
  · exact ⟨_, rfl⟩
  split
  · obtain ⟨c, hc⟩ := ch8Step_next (ch8TurnStart s)
    exact ⟨_, congrArg (onNext · ch8TickStep) hc⟩
  · exact ⟨_, rfl⟩

theorem machineTurn_trapFree (s : State) : Result.trapFree s.cfg.undefPolicy (machineTurn s) := by
  unfold machineTurn
  split
  · exact gbTurn_trapFree s
  · exact .inl (ch8Turn_next s)

theorem step_trapFree (s : State) : Result.trapFree s.cfg.undefPolicy (step s) := by
  unfold step
  rcases schedulerTurn_cases s with ⟨c, rest, -, -, he⟩ | ⟨rest, -, -, he⟩ | ⟨-, he⟩ <;> rw [he]
  · exact Result.trapFree_next _ _
  · exact machineTurn_trapFree { s with hostCalls := rest }
  · exact machineTurn_trapFree s

/-- Under the policy the spec takes a trap-free outcome is a next state. -/
theorem Result.trapFree.next_of_skip {policy : UndefPolicy} {r : Result} (h : Result.trapFree policy r) (hp : policy = .skip) :
    ∃ t, r = .next t := by
  obtain h | ⟨hf, -⟩ := h
  · exact h
  · cases hp.symm.trans hf

/-- Settles O12: each part of a step is trap-free. -/
theorem everyStepCompletes : Obligations.EveryStepCompletes := by
  intro s
  have h := step_trapFree s
  refine ⟨h.next_of_skip, fun r hr => ?_, fun f hf => ?_⟩
  · obtain ⟨t, ht⟩ | ⟨-, op, address, hf⟩ := h
    · cases hr.symm.trans ht
    · cases hr.symm.trans hf
  · obtain ⟨t, ht⟩ | ⟨hp, op, address, hf'⟩ := h
    · cases hf.symm.trans ht
    · exact ⟨hp, op, address, Host.Outcome.fault.inj (hf.symm.trans hf')⟩

/-! ## A Game Boy tick -/

/-- A CPU step does not count turns. -/
theorem cpuStep_tickSteps {s t : State} (h : cpuStep s = .next t) : t.tickSteps = s.tickSteps := by
  rcases cpuStep_cases h with rfl | rfl | hrun
  · rfl
  · rfl
  · obtain ⟨f, -, rfl⟩ | ⟨f, -, rfl⟩ := exec_next_cases hrun <;> rfl

/-- The end of a turn ends the tick, with a frame or at the cap, or counts the turn (rules R430, R431). -/
theorem gbTurnEnd_cases (s : State) :
    ((gbTurnEnd s).tickSteps = 0 ∧ (gbTurnEnd s).tickReturned = some (gbTurnEnd s).gb.frameReady ∧
      (s.tickSteps + 1 < 17556 → (gbTurnEnd s).gb.frameReady = true)) ∨
    ((gbTurnEnd s).tickSteps = s.tickSteps + 1 ∧ s.tickSteps + 1 < 17556) := by
  unfold gbTurnEnd gbTickStep Config.gbStepCap
  split
  · next h => exact .inl ⟨rfl, rfl, fun hlt => h.resolve_right (Nat.not_le_of_lt hlt)⟩
  · next h => exact .inr ⟨rfl, Nat.lt_of_not_le fun hle => h (.inr hle)⟩

/-- A Game Boy turn with an image loaded ends its tick or counts itself. -/
theorem step_gbTurn_cases {s : State} (hskip : s.cfg.undefPolicy = .skip) (hturn : s.turnOf .gameBoy) (hrom : s.gb.romLen ≠ 0) :
    ∃ t, step s = .next t ∧
      ((t.tickSteps = 0 ∧ t.tickReturned = some t.gb.frameReady ∧ (s.tickSteps + 1 < 17556 → t.gb.frameReady = true)) ∨
        (t.tickSteps = s.tickSteps + 1 ∧ s.tickSteps + 1 < 17556)) := by
  obtain ⟨frame, error, he⟩ := gbTurnStart_eq s
  have hcfg : (gbTurnStart s).cfg.undefPolicy = .skip := by rw [he]; exact hskip
  have hticks : (gbTurnStart s).tickSteps = s.tickSteps := by rw [he]
  obtain ⟨u, hu⟩ := (cpuStep_trapFree (gbTurnStart s)).next_of_skip hcfg
  refine ⟨gbTurnEnd u, by rw [step_of_gbTurn hturn hrom, hu]; rfl, ?_⟩
  rw [← hticks, ← cpuStep_tickSteps hu]
  exact gbTurnEnd_cases u

/-- With `r` turns left to the cap a Game Boy tick ends within `r` turns, and earlier only with a frame. -/
theorem gbTick_ends {r : Nat} : ∀ {s : State}, s.cfg.undefPolicy = .skip → s.turnOf .gameBoy → s.gb.romLen ≠ 0 → 0 < r →
    s.tickSteps + r = 17556 → ∃ k t, 1 ≤ k ∧ k ≤ r ∧ Host.Core.run Sys2Proof.core k s = .next t ∧ t.tickSteps = 0 ∧
      t.tickReturned = some t.gb.frameReady ∧ (k < r → t.gb.frameReady = true) := by
  induction r with
  | zero => exact fun _ _ _ h => absurd h (Nat.lt_irrefl 0)
  | succ r ih =>
    intro s hskip hturn hrom _ hsum
    obtain ⟨t, hstep, ⟨hzero, hreturned, hframe⟩ | ⟨hcount, hlt⟩⟩ := step_gbTurn_cases hskip hturn hrom
    · refine ⟨1, t, Nat.le_refl 1, by omega, ?_, hzero, hreturned, fun h => hframe (by omega)⟩
      exact run_succ_of_next (M := Sys2Proof.core) hstep 0
    · obtain ⟨hmachine, hactive, -⟩ := step_of_turnOf s _ hturn
      obtain ⟨hcfg, -, -, hlen, -, -, -, -, -, hactive'⟩ :=
        State.hostSide_fields (machineTurn_hostSide (hmachine.symm.trans hstep))
      obtain ⟨k, u, hk, hkr, hrun, hends, hreturned, hframe⟩ := ih (s := t) (hcfg ▸ hskip)
        ⟨hactive'.trans hactive, .inl (by omega)⟩ (hlen ▸ hrom) (by omega) (by omega)
      exact ⟨k + 1, u, by omega, by omega, (run_succ_of_next (M := Sys2Proof.core) hstep k).trans hrun, hends, hreturned,
        fun h => hframe (by omega)⟩

/-! ## A CHIP-8 tick -/

/-- The start of a CHIP-8 turn touches the recorded error alone. -/
theorem ch8TurnStart_eq (s : State) : ∃ error, ch8TurnStart s = { s with hostError := error } := by
  unfold ch8TurnStart
  split
  · exact ⟨_, rfl⟩
  · exact ⟨s.hostError, rfl⟩

theorem ch8TickStep_eq (s : State) : ch8TickStep s =
    if s.tickSteps + 1 < s.cfg.ch8Batch then { s with tickSteps := s.tickSteps + 1 } else ch8TickEnd s := by
  unfold ch8TickStep
  by_cases hlast : s.cfg.ch8Batch ≤ s.tickSteps + 1
  · rw [if_pos hlast, if_neg (Nat.not_lt_of_le hlast)]
  · rw [if_neg hlast, if_pos (Nat.lt_of_not_le hlast)]

/-- A CHIP-8 turn of a batch is the CHIP-8 step, then the count of the turn or, in the last one, the end of the tick (rule R340). -/
theorem step_of_ch8Batch {s : State} (hturn : s.turnOf .chip8) (hb : s.tickSteps < s.cfg.ch8Batch) :
    ∃ t, ch8Step (ch8TurnStart s) = .next t ∧
      step s = .next (if s.tickSteps + 1 < s.cfg.ch8Batch then { t with tickSteps := s.tickSteps + 1 } else ch8TickEnd t) := by
  obtain ⟨hstep, hactive, hstop⟩ := step_of_turnOf s _ hturn
  obtain ⟨error, he⟩ := ch8TurnStart_eq s
  obtain ⟨c, hc⟩ := ch8Step_next (ch8TurnStart s)
  have hturn' : step s = onNext (ch8Step (ch8TurnStart s)) ch8TickStep := by
    rw [hstep, machineTurn, hactive]
    simp only [ch8Turn, hstop, hb, if_true, if_false, Bool.false_eq_true]
  refine ⟨_, hc, ?_⟩
  rw [hturn', hc, onNext, ch8TickStep_eq, he]

/-- A CHIP-8 turn past the batch, which is that of an empty batch, only ends the tick (rule R340, log entry 6). -/
theorem step_of_ch8EmptyBatch {s : State} (hturn : s.turnOf .chip8) (hb : s.cfg.ch8Batch ≤ s.tickSteps) :
    step s = .next (ch8TickEnd (ch8TurnStart s)) := by
  obtain ⟨hstep, hactive, hstop⟩ := step_of_turnOf s _ hturn
  rw [hstep, machineTurn, hactive]
  simp only [ch8Turn, hstop, Nat.not_lt_of_le hb, if_false, Bool.false_eq_true]

/-- With `r + 1` turns left in the batch a CHIP-8 tick ends after exactly these. -/
theorem ch8Tick_ends {r : Nat} : ∀ {s : State}, s.turnOf .chip8 → s.tickSteps + (r + 1) = s.cfg.ch8Batch →
    ∃ t, Host.Core.run Sys2Proof.core (r + 1) s = .next t ∧ t.tickSteps = 0 ∧ t.tickReturned = some true := by
  induction r with
  | zero =>
    intro s hturn hsum
    obtain ⟨t, -, hstep⟩ := step_of_ch8Batch hturn (by omega)
    rw [if_neg (by omega)] at hstep
    exact ⟨_, run_succ_of_next (M := Sys2Proof.core) hstep 0, rfl, rfl⟩
  | succ r ih =>
    intro s hturn hsum
    obtain ⟨t, -, hstep⟩ := step_of_ch8Batch hturn (by omega)
    rw [if_pos (by omega)] at hstep
    obtain ⟨hmachine, hactive, -⟩ := step_of_turnOf s _ hturn
    obtain ⟨hcfg, -, -, -, -, -, -, -, -, hactive'⟩ := State.hostSide_fields (machineTurn_hostSide (hmachine.symm.trans hstep))
    obtain ⟨u, hrun, hends⟩ := ih (s := { t with tickSteps := s.tickSteps + 1 })
      ⟨hactive'.trans hactive, .inl (Nat.succ_ne_zero _)⟩ (by rw [hcfg, ← hsum]; exact Nat.succ_add_eq_add_succ _ _)
    exact ⟨u, (run_succ_of_next (M := Sys2Proof.core) hstep _).trans hrun, hends⟩

/-- Settles O13: each turn counts itself or ends the tick. -/
theorem everyTickEnds : Obligations.EveryTickEnds := by
  intro s hskip hzero hcalls hrunning hpaused
  refine ⟨fun hactive hrom => ?_, fun hactive => ?_⟩
  · exact gbTick_ends hskip ⟨hactive, .inr ⟨hcalls, hrunning, hpaused⟩⟩ hrom (by decide) (by rw [hzero])
  · have hturn : s.turnOf .chip8 := ⟨hactive, .inr ⟨hcalls, hrunning, hpaused⟩⟩
    cases hb : s.cfg.ch8Batch with
    | zero => exact ⟨_, run_succ_of_next (M := Sys2Proof.core) (step_of_ch8EmptyBatch hturn (by omega)) 0, rfl, rfl⟩
    | succ r =>
      rw [Nat.max_eq_right (Nat.le_add_left 1 r)]
      exact ch8Tick_ends hturn (by omega)

/-! ## The host's events

Nothing in a turn of a machine looks at the events to come. -/

/-- The state with other host events to come. -/
def State.withEvents (events : List HostEvent) (s : State) : State := { s with hostCalls := events }

/-- A meaning that neither reads nor changes the host's events. -/
def ignoresEvents (m : State → Result) : Prop := ∀ s events, m (s.withEvents events) = onNext (m s) (State.withEvents events)

/-- No instruction looks at the host's events. -/
theorem exec_ignoresEvents (i : Instr) : ignoresEvents (exec i) := fun s events => by
  have hm := exec_meaning i
  generalize i.machine = machine at hm
  generalize exec i = meaning at hm
  cases hm with
  | gameBoy | chip8 => rfl
  | undefinedByte op =>
    unfold undefined State.withEvents
    simp only
    split <;> rfl

theorem interruptOrInstr_ignoresEvents : ignoresEvents interruptOrInstr := fun s events => by
  unfold interruptOrInstr
  rw [apply_ite (onNext · (State.withEvents events))]
  exact if_congr Iff.rfl rfl (exec_ignoresEvents s.gb.fetchInstr.1 { s with gb := s.gb.skipBytes s.gb.fetchInstr.2 } events)

theorem cpuStep_ignoresEvents : ignoresEvents cpuStep := fun s events => by
  have hgb : (s.withEvents events).gb = s.gb := rfl
  unfold cpuStep
  rw [hgb]
  split
  · split
    · exact interruptOrInstr_ignoresEvents { s with gb := wake s.gb } events
    · rfl
  · exact interruptOrInstr_ignoresEvents s events

theorem gbTurnStart_withEvents (s : State) (events : List HostEvent) :
    gbTurnStart (s.withEvents events) = (gbTurnStart s).withEvents events := by
  unfold gbTurnStart
  rw [apply_ite (State.withEvents events)]
  rfl

theorem gbTurnEnd_withEvents (s : State) (events : List HostEvent) :
    gbTurnEnd (s.withEvents events) = (gbTurnEnd s).withEvents events := by
  unfold gbTurnEnd gbTickStep
  rw [apply_ite (State.withEvents events)]
  rfl

theorem ch8TurnStart_withEvents (s : State) (events : List HostEvent) :
    ch8TurnStart (s.withEvents events) = (ch8TurnStart s).withEvents events := by
  unfold ch8TurnStart
  rw [apply_ite (State.withEvents events)]
  rfl

theorem ch8TickStep_withEvents (s : State) (events : List HostEvent) :
    ch8TickStep (s.withEvents events) = (ch8TickStep s).withEvents events := by
  unfold ch8TickStep
  rw [apply_ite (State.withEvents events)]
  rfl

/-- What follows an outcome with other events, when it carries the events along. -/
theorem onNext_withEvents (r : Result) (events : List HostEvent) {f : State → State}
    (hf : ∀ s, f (s.withEvents events) = (f s).withEvents events) :
    onNext (onNext r (State.withEvents events)) f = onNext (onNext r f) (State.withEvents events) := by
  simp only [onNext_onNext, hf]

theorem gbTurn_ignoresEvents : ignoresEvents gbTurn := fun s events => by
  have hgb : (s.withEvents events).gb = s.gb := rfl
  have hstop : (s.withEvents events).stopped = s.stopped := rfl
  unfold gbTurn
  rw [hgb, hstop]
  split
  · rfl
  split
  · rfl
  rw [gbTurnStart_withEvents, cpuStep_ignoresEvents]
  exact onNext_withEvents _ events (gbTurnEnd_withEvents · events)

theorem ch8Step_ignoresEvents : ignoresEvents ch8Step := fun s events => by
  have hch8 : (s.withEvents events).ch8 = s.ch8 := rfl
  unfold ch8Step
  rw [hch8]
  split
  · rfl
  split
  · exact exec_ignoresEvents _ { s with ch8 := s.ch8.advance } events
  · rfl

theorem ch8Turn_ignoresEvents : ignoresEvents ch8Turn := fun s events => by
  have hstop : (s.withEvents events).stopped = s.stopped := rfl
  have hticks : (s.withEvents events).tickSteps = s.tickSteps := rfl
  have hcfg : (s.withEvents events).cfg = s.cfg := rfl
  unfold ch8Turn
  rw [hstop, hticks, hcfg, ch8TurnStart_withEvents]
  split
  · rfl
  split
  · rw [ch8Step_ignoresEvents]
    exact onNext_withEvents _ events (ch8TickStep_withEvents · events)
  · rfl

/-- A turn of a machine does not look at the host's events (rule R464). -/
theorem machineTurn_ignoresEvents : ignoresEvents machineTurn := fun s events => by
  have hactive : (s.withEvents events).active = s.active := rfl
  unfold machineTurn
  rw [hactive]
  split
  · exact gbTurn_ignoresEvents s events
  · exact ch8Turn_ignoresEvents s events

/-- A turn without an image raises `InvalidState` (rule R456, log entry 9). -/
theorem machineTurn_noImage {s : State} (ha : s.active = .gameBoy) (hrom : s.gb.romLen = 0) :
    machineTurn s = .next (s.hostFailed .invalidState) := by
  rw [machineTurn, ha]
  exact if_pos hrom

/-- A tick started while the flags stop the scheduler returns false (rules R430, R340). -/
theorem machineTurn_stopped {s : State} (hstop : s.stopped = true) (hrom : s.active = .gameBoy → s.gb.romLen ≠ 0) :
    machineTurn s = .next (idleTick s) := by
  unfold machineTurn
  split
  · next ha => exact (if_neg (hrom ha)).trans (if_pos hstop)
  · exact if_pos hstop

/-- Settles O24: a call is done, a frame tick is a turn of a machine, and no turn looks at the events. -/
theorem hostCallsBetweenTicks : Obligations.HostCallsBetweenTicks := by
  refine ⟨schedulerTurn_call, fun s rest hzero hq => ?_, fun s events hin => ?_, fun s => ⟨rfl, rfl, rfl, fun _ => rfl⟩,
    fun _ _ => rfl, fun s hrom => if_pos hrom, fun s ha hrom hb => ?_, fun s hzero hq hflags hrom => ?_⟩
  · have hempty : step (s.withEvents []) = machineTurn (s.withEvents []) := schedulerTurn_noEvent _ (.inr rfl)
    exact (schedulerTurn_stepFrame s rest hzero hq).trans
      ((machineTurn_ignoresEvents (s.withEvents []) rest).trans (congrArg (onNext · (State.withEvents rest)) hempty.symm))
  · have hturn : step s = machineTurn s := schedulerTurn_noEvent s (.inl hin)
    rw [hturn]
    exact (schedulerTurn_noEvent (s.withEvents events) (.inl hin)).trans (machineTurn_ignoresEvents s events)
  · exact (schedulerTurn_noEvent s hb).trans (machineTurn_noImage ha hrom)
  · refine (schedulerTurn_noEvent s (.inr hq)).trans (machineTurn_stopped ?_ hrom)
    rcases hflags with h | h <;> simp [State.stopped, hzero, h]

end Sys2Proof.Machine
end

section
/-! SUPPORT. Proofs: the system instructions and the lone CB byte (O52), and the words that the spec writes out (O5). -/

namespace Sys2Proof.Machine

/-- A byte of the CB page means what the lone CB byte before it runs (rules R111, R285). -/
theorem exec_cbInstr (op2 : Byte) : exec (cbInstr op2) = gbNext (runCb op2) := by
  have hbit : Fin.ofNat 8 (fieldY op2) = ⟨fieldY op2, fieldY_lt op2⟩ := Fin.ext (Nat.mod_eq_of_lt (fieldY_lt op2))
  funext s
  unfold cbInstr
  split
  · next h => rw [exec_shiftOp]; simp only [gbNext, runCb, h]
  · next h => rw [exec_bitOp, hbit]; simp only [gbNext, runCb, h]
  · next h => rw [exec_resOp, hbit]; simp only [gbNext, runCb, h]
  · have hlt := fieldX_lt op2
    have h : fieldX op2 = 3 := by grind
    rw [exec_setOp, hbit]
    simp only [gbNext, runCb, h]

/-- Settles O52: five instructions write `ime`, the latch and the cycle count, none of which a read sees; the CB byte runs its second
byte. -/
theorem systemInstructions : Obligations.SystemInstructions := by
  refine fun s => ⟨?_, ?_, ?_, ?_, ?_, ⟨_, rfl⟩, fun op2 i hop2 hi => ?_⟩
  · exact runsStoringNothing_of_gbNext (f := idle4) rfl fun _ _ => rfl
  · exact runsStoringNothing_of_gbNext (f := idle4) rfl fun _ _ => rfl
  · exact runsStoringNothing_of_gbNext (f := Machine.halt) rfl fun _ _ => rfl
  · exact runsStoringNothing_of_gbNext (f := setIme false) rfl fun _ _ => rfl
  · exact runsStoringNothing_of_gbNext (f := setIme true) rfl fun _ _ => rfl
  · have hcb : decode .gameBoy [0xCB, op2] = .ok (cbInstr op2, []) := rfl
    cases hcb.symm.trans hi
    rw [exec_cbInstr, ← hop2]
    rfl

/-- Settles O5: the decoder evaluates to the named instruction on each word. -/
theorem specWordsDecode : Obligations.SpecWordsDecode :=
  ⟨rfl, rfl, rfl, rfl, rfl, rfl, rfl, rfl, rfl, rfl, rfl⟩

end Sys2Proof.Machine
end

section
/-! SUPPORT. Proofs: the CHIP-8 words of no row (O7), the register instructions (O53), the jumps and skips (O54), call and return
(O55), and the arithmetic with a flag (O56). -/

namespace Sys2Proof.Machine

/-! ## Words of no row -/

theorem decodeCh8Major8_error_iff (op : Word) : decodeCh8Major8 op = .error (.unknownChip8 op) ↔
    8 ≤ (ch8N op).toNat ∧ (ch8N op).toNat ≠ 0xE := by
  unfold decodeCh8Major8
  split
  case h_10 => exact iff_of_true rfl (by grind)
  all_goals exact iff_of_false nofun (by omega)

theorem decodeCh8MajorF_error_iff (op : Word) : decodeCh8MajorF op = .error (.unknownChip8 op) ↔
    lowByte op ∉ [(0x07 : Byte), 0x0A, 0x15, 0x18, 0x1E, 0x29, 0x33, 0x55, 0x65] := by
  simp only [List.mem_cons, List.not_mem_nil, or_false, ← BitVec.toNat_inj, BitVec.toNat_ofNat, BitVec.ofNat_eq_ofNat]
  unfold decodeCh8MajorF
  split
  case h_10 => exact iff_of_true rfl (by grind)
  all_goals exact iff_of_false nofun (by omega)

/-- Settles O7: major by major, a word is unknown exactly in the cases named; and the step on one stops at the fetch. -/
theorem chip8UnknownWordsAreIgnored : Obligations.Chip8UnknownWordsAreIgnored := by
  refine ⟨fun op => ?_, fun s e hwait hd => ?_⟩
  · have hlt := ch8Major_lt op
    unfold decodeCh8
    split
    case h_1 hm =>
      refine iff_of_false ?_ (by omega)
      split
      · nofun
      · split <;> nofun
    case h_6 hm | h_10 hm => split <;> simp_all
    case h_9 hm => simp [decodeCh8Major8_error_iff, hm]
    case h_15 hm =>
      split
      · simp_all
      · split <;> simp_all
    case h_16 =>
      have hm : ch8Major op = 0xF := by grind
      simp [decodeCh8MajorF_error_iff, hm]
    all_goals exact iff_of_false nofun (by omega)
  · rw [ch8Step, if_neg (Bool.eq_false_iff.mp hwait), hd]
    rfl

/-! ## Registers -/

theorem addr12_add_byte (a : Addr12) (v : Byte) : a + v.setWidth 12 = BitVec.ofNat 12 (a.toNat + v.toNat) := by
  apply BitVec.eq_of_toNat_eq
  simp [BitVec.toNat_add]

theorem glyphAddr_eq (v : Byte) : glyphAddr v = BitVec.ofNat 12 (0x050 + 5 * (v.toNat % 16)) := by
  apply BitVec.eq_of_toNat_eq
  simp only [glyphAddr, BitVec.toNat_add, BitVec.toNat_mul, BitVec.toNat_setWidth, BitVec.toNat_ofNat, BitVec.ofNat_eq_ofNat]
  omega

/-- Settles O53: each instruction is one record update. -/
theorem chip8RegisterInstructions : Obligations.Chip8RegisterInstructions := by
  refine fun s x y nn nnn => ⟨rfl, rfl, rfl, rfl, rfl, rfl, rfl, rfl, rfl, rfl, rfl, ?_, ?_, rfl, fun t ht => ?_⟩
  · rw [← addr12_add_byte]
    rfl
  · rw [← glyphAddr_eq]
    rfl
  · cases ht
    have hreg := s.ch8.reg_setReg x x (Config.ch8Rng s.ch8.rngDraws &&& nn)
    rw [if_pos rfl] at hreg
    refine (congrArg (· &&& ~~~nn) hreg).trans ?_
    rw [BitVec.and_assoc, BitVec.and_not_self]
    exact BitVec.and_zero

/-! ## Jumps and skips -/

/-- An instruction that means a skip moves `pc` on by 2 when its test holds, and nothing else. -/
theorem exec_of_skipIf {i : Instr} {test : Chip8 → Bool} (hx : exec i = ch8Next fun c => c.skipIf (test c)) {s : State} {b : Bool}
    (hb : test s.ch8 = b) :
    exec i s = .next { s with ch8 := { s.ch8 with pc := if b then s.ch8.pc + 2 else s.ch8.pc } } := by
  rw [hx, ch8Next, hb]
  cases b <;> rfl

theorem keyOf_eq (x : Nibble) (c : Chip8) : keyOf x c = c.key (BitVec.ofNat 4 (c.reg x).toNat) := by
  rw [BitVec.ofNat_toNat]
  rfl

/-- Settles O54: the jumps are record updates, and each skip is `skipIf` with its test. -/
theorem chip8JumpsAndSkips : Obligations.Chip8JumpsAndSkips := by
  refine fun s x y nn nnn => ⟨rfl, rfl, rfl, ?_, ?_, ?_, ?_, ?_, ?_, ?_⟩
  · rw [← addr12_add_byte]
    rfl
  · exact exec_of_skipIf (test := fun c => c.reg x == nn) rfl rfl
  · exact exec_of_skipIf (test := fun c => c.reg x != nn) rfl (decide_not).symm
  · exact exec_of_skipIf (test := fun c => c.reg x == c.reg y) rfl rfl
  · exact exec_of_skipIf (test := fun c => c.reg x != c.reg y) rfl (decide_not).symm
  · exact exec_of_skipIf (test := keyOf x) rfl (keyOf_eq x s.ch8)
  · exact exec_of_skipIf (test := fun c => !keyOf x c) rfl (congrArg not (keyOf_eq x s.ch8))

/-! ## Call and return -/

theorem ch8Call_of_sp {c : Chip8} {k : Nat} (hk : k < 16) (hk' : k + 1 < 17) (hsp : c.sp.val = k) (nnn : Addr12) :
    ch8Call nnn c = { c with stack := c.stack.set k c.pc hk, sp := ⟨k + 1, hk'⟩, pc := nnn } := by
  subst hsp
  exact dif_pos hk

theorem ch8Ret_of_sp {c : Chip8} {k : Nat} (hk : k < 16) (hk' : k < 17) (hsp : c.sp.val = k + 1) :
    ch8Ret c = { c with sp := ⟨k, hk'⟩, pc := c.stack[k] } := by
  unfold ch8Ret
  rw [dif_neg (by omega)]
  simp only [hsp, Nat.add_sub_cancel]

/-- Settles O55: the two operations by the stack pointer, and the entry that a return finds is the one that the call stored. -/
theorem chip8CallAndReturn : Obligations.Chip8CallAndReturn := by
  refine fun s nnn => ⟨fun h => ?_, fun h => ?_, fun k hk hk' hsp => ?_, fun k hk hk' hsp => ?_, fun h => ?_⟩
  · have hfull : ch8Call nnn s.ch8 = s.ch8 := dif_neg (by omega)
    exact congrArg (fun c => Host.Outcome.next { s with ch8 := c }) hfull
  · have hempty : ch8Ret s.ch8 = s.ch8 := dif_pos h
    exact congrArg (fun c => Host.Outcome.next { s with ch8 := c }) hempty
  · exact congrArg (fun c => Host.Outcome.next { s with ch8 := c }) (ch8Call_of_sp hk hk' hsp nnn)
  · exact congrArg (fun c => Host.Outcome.next { s with ch8 := c }) (ch8Ret_of_sp hk hk' hsp)
  · refine ⟨_, _, rfl, ?_, rfl, ?_⟩ <;> simp only [ch8Call_of_sp h (Nat.succ_lt_succ h) rfl nnn]
    rw [ch8Ret_of_sp h (Nat.lt_succ_of_lt h) rfl]
    exact ⟨Vector.getElem_set_self h, rfl⟩

/-! ## Arithmetic with a flag -/

/-- What an instruction that means a write of `V[x]` and then of the flag does (rule R318). -/
theorem exec_of_setRegFlag {i : Instr} {f : Chip8 → Chip8} (hx : exec i = ch8Next f) {s : State} {x : Nibble} {v : Byte} {b : Bool}
    (hf : f s.ch8 = s.ch8.setRegFlag x v b) {value flag : Nat} (hv : v.toNat = value) (hb : b.toNat = flag) :
    ∃ c, exec i s = .next { s with ch8 := c } ∧ (c.reg 0xF).toNat = flag ∧ (x ≠ 0xF → (c.reg x).toNat = value) ∧
      (∀ k, k ≠ x → k ≠ 0xF → c.reg k = s.ch8.reg k) ∧ { c with v := s.ch8.v } = s.ch8 := by
  refine ⟨s.ch8.setRegFlag x v b, by rw [hx, ch8Next, hf], ?_, fun hxF => ?_, fun k hkx hkF => ?_, rfl⟩
  · rw [Chip8.reg_setRegFlag, if_pos rfl, ← hb]
    cases b <;> rfl
  · rw [Chip8.reg_setRegFlag, if_neg hxF, if_pos rfl, hv]
  · rw [Chip8.reg_setRegFlag, if_neg hkF, if_neg hkx]

theorem toNat_byte_sub (a b : Byte) : (a - b).toNat = (a.toNat + 256 - b.toNat) % 256 := by
  have := b.isLt
  rw [BitVec.toNat_sub]
  omega

theorem toNat_decide (p : Prop) [Decidable p] : (decide p).toNat = if p then 1 else 0 := by
  by_cases h : p <;> simp [h]

/-- Settles O56: each of the five writes its exact result and then its flag. -/
theorem chip8FlagArithmetic : Obligations.Chip8FlagArithmetic := by
  intro s x y i value flag h
  have hx := (s.ch8.reg x).isLt
  have hy := (s.ch8.reg y).isLt
  obtain ⟨rfl, rfl, rfl⟩ | ⟨rfl, rfl, rfl⟩ | ⟨rfl, rfl, rfl⟩ | ⟨rfl, rfl, rfl⟩ | ⟨rfl, rfl, rfl⟩ := h
  · refine exec_of_setRegFlag (f := ch8Add x y) rfl rfl (BitVec.toNat_ofNat _ _) ?_
    rw [toNat_decide]
    split <;> omega
  · exact exec_of_setRegFlag (f := ch8Sub x y) rfl rfl (toNat_byte_sub _ _) (toNat_decide _)
  · exact exec_of_setRegFlag (f := ch8Subn x y) rfl rfl (toNat_byte_sub _ _) (toNat_decide _)
  · refine exec_of_setRegFlag (f := ch8Shr x y) rfl rfl ?_ ?_
    · rw [BitVec.toNat_ushiftRight, Nat.shiftRight_eq_div_pow]
    · rw [BitVec.getLsbD, Nat.toNat_testBit, Nat.pow_zero, Nat.div_one]
  · refine exec_of_setRegFlag (f := ch8Shl x y) rfl rfl ?_ ?_
    · rw [BitVec.toNat_shiftLeft, Nat.shiftLeft_eq, Nat.mul_comm]
    · rw [BitVec.getLsbD, Nat.toNat_testBit]
      omega

end Sys2Proof.Machine
end

section
/-! SUPPORT. Proofs: the sprite draw, pixel by pixel (O57), and that drawing twice restores the display (O58). -/

namespace Sys2Proof.Machine

/-! ## Drawing a set of pixels

A draw is made of single columns: each flips its own set of pixels, and no two sets overlap. -/

/-- Some pixel of the set is lit (rule R327). -/
def Chip8.collides (c : Chip8) (bits : Nat → Nat → Bool) : Prop :=
  ∃ px py, px < 64 ∧ py < 32 ∧ c.pixel px py = true ∧ bits px py = true

/-- `d` is `c` with a set of pixels flipped, and with `VF` set to 1 if one of them was lit (rule R327). -/
structure Drawn (bits : Nat → Nat → Bool) (c d : Chip8) : Prop where
  pixels : ∀ px py, px < 64 → py < 32 → d.pixel px py = (c.pixel px py ^^ bits px py)
  flagSet : c.collides bits → d.reg 0xF = 1
  flagKept : ¬ c.collides bits → d.reg 0xF = c.reg 0xF
  registers : ∀ k, k ≠ 0xF → d.reg k = c.reg k
  frame : { d with v := c.v, gfx := c.gfx } = c

theorem Chip8.collides_mono {c d : Chip8} {bits bits' : Nat → Nat → Bool}
    (h : ∀ px py, px < 64 → py < 32 → bits px py = true → bits' px py = true ∧ d.pixel px py = c.pixel px py)
    (hc : c.collides bits) : d.collides bits' := by
  obtain ⟨px, py, hx, hy, hlit, hb⟩ := hc
  obtain ⟨hb', hp⟩ := h px py hx hy hb
  exact ⟨px, py, hx, hy, hp.trans hlit, hb'⟩

/-- Only the pixels of the display matter. -/
theorem Drawn.congr {bits bits' : Nat → Nat → Bool} {c d : Chip8} (hd : Drawn bits c d)
    (h : ∀ px py, px < 64 → py < 32 → bits px py = bits' px py) : Drawn bits' c d := by
  obtain ⟨hpixels, hset, hkept, hregisters, hframe⟩ := hd
  refine ⟨fun px py hx hy => h px py hx hy ▸ hpixels px py hx hy, fun hc => hset ?_, fun hc => hkept fun hc' => hc ?_, hregisters,
    hframe⟩
  · exact Chip8.collides_mono (fun px py hx hy hb => ⟨(h px py hx hy).trans hb, rfl⟩) hc
  · exact Chip8.collides_mono (fun px py hx hy hb => ⟨(h px py hx hy).symm.trans hb, rfl⟩) hc'

/-- Drawing nothing changes nothing. -/
theorem Drawn.refl (c : Chip8) : Drawn (fun _ _ => false) c c where
  pixels _ _ _ _ := (Bool.xor_false _).symm
  flagSet := fun ⟨_, _, _, _, _, h⟩ => absurd h Bool.false_ne_true
  flagKept _ := rfl
  registers _ _ := rfl
  frame := rfl

/-- Two draws of sets that do not overlap are one draw of both. -/
theorem Drawn.trans {bits bits' : Nat → Nat → Bool} {c d e : Chip8} (h : Drawn bits c d) (h' : Drawn bits' d e)
    (hdisjoint : ∀ px py, (bits px py && bits' px py) = false) : Drawn (fun px py => bits px py || bits' px py) c e := by
  have hxor (px py : Nat) : (bits px py ^^ bits' px py) = (bits px py || bits' px py) := by
    have := hdisjoint px py
    revert this
    cases bits px py <;> cases bits' px py <;> decide
  have huntouched (px py : Nat) (hx : px < 64) (hy : py < 32) (hb : bits' px py = true) : d.pixel px py = c.pixel px py := by
    have hfalse : bits px py = false := by simpa [hb] using hdisjoint px py
    rw [h.pixels px py hx hy, hfalse, Bool.xor_false]
  have hlater : d.collides bits' → c.collides bits' :=
    Chip8.collides_mono fun px py hx hy hb => ⟨hb, (huntouched px py hx hy hb).symm⟩
  have hearlier : c.collides bits' → d.collides bits' :=
    Chip8.collides_mono fun px py hx hy hb => ⟨hb, huntouched px py hx hy hb⟩
  have hleft : c.collides bits → c.collides fun px py => bits px py || bits' px py :=
    Chip8.collides_mono fun px py _ _ hb => ⟨Bool.or_eq_true_iff.mpr (.inl hb), rfl⟩
  have hright : c.collides bits' → c.collides fun px py => bits px py || bits' px py :=
    Chip8.collides_mono fun px py _ _ hb => ⟨Bool.or_eq_true_iff.mpr (.inr hb), rfl⟩
  refine ⟨fun px py hx hy => ?_, fun hc => ?_, fun hc => ?_, fun k hk => (h'.registers k hk).trans (h.registers k hk), ?_⟩
  · rw [h'.pixels px py hx hy, h.pixels px py hx hy, Bool.xor_assoc, hxor]
  · by_cases hc' : d.collides bits'
    · exact h'.flagSet hc'
    · rw [h'.flagKept hc']
      obtain ⟨px, py, hx, hy, hlit, hb⟩ := hc
      rcases Bool.or_eq_true_iff.mp hb with hb | hb
      · exact h.flagSet ⟨px, py, hx, hy, hlit, hb⟩
      · exact absurd (hearlier ⟨px, py, hx, hy, hlit, hb⟩) hc'
  · rw [h'.flagKept fun hr => hc (hright (hlater hr)), h.flagKept fun hl => hc (hleft hl)]
  · exact Eq.trans (congrArg (fun z : Chip8 => { z with v := c.v, gfx := c.gfx }) h'.frame :) h.frame

/-! ## Columns, rows and the sprite -/

theorem Chip8.reg_flipPixel (c : Chip8) (x y : Nat) (k : Nibble) : (c.flipPixel x y).reg k = c.reg k := by
  unfold Chip8.reg
  simp only [Chip8.flipPixel_v]

/-- The flip of one pixel, with the collision flag. -/
theorem flipPixel_drawn {x y : Nat} (hx : x < 64) (hy : y < 32) (c : Chip8) : Drawn (fun px py => decide (px = x ∧ py = y)) c
    ((if c.pixel x y then c.setReg 0xF 1 else c).flipPixel x y) := by
  have hcollides : c.collides (fun px py => decide (px = x ∧ py = y)) ↔ c.pixel x y = true := by
    constructor
    · rintro ⟨px, py, -, -, hlit, hb⟩
      obtain ⟨rfl, rfl⟩ := of_decide_eq_true hb
      exact hlit
    · exact fun hlit => ⟨x, y, hx, hy, hlit, decide_eq_true ⟨rfl, rfl⟩⟩
  split
  · next hlit =>
    refine ⟨fun px py _ _ => Chip8.pixel_flipPixel _ hx hy px py, fun _ => ?_, fun hc => absurd (hcollides.mpr hlit) hc,
      fun k hk => ?_, ?_⟩
    · rw [Chip8.reg_flipPixel, Chip8.reg_setReg, if_pos rfl]
    · rw [Chip8.reg_flipPixel, Chip8.reg_setReg, if_neg hk]
    · exact (congrArg (fun z : Chip8 => { z with v := c.v }) (Chip8.flipPixel_keeps (c.setReg 0xF 1) x y) :)
  · next hlit =>
    refine ⟨fun px py _ _ => Chip8.pixel_flipPixel c hx hy px py, fun hc => absurd (hcollides.mp hc) hlit,
      fun _ => c.reg_flipPixel x y _, fun k _ => c.reg_flipPixel x y k, ?_⟩
    exact (congrArg (fun z : Chip8 => { z with v := c.v }) (Chip8.flipPixel_keeps c x y) :)

/-- The pixels that `n` columns of a sprite row with byte `b` flip, from (`x0`, `y0`) on, leftmost pixel in bit 7 (rule R327). -/
def rowBits (x0 y0 : Nat) (b : Byte) (n px py : Nat) : Bool :=
  decide (py = y0) && decide (x0 ≤ px) && decide (px < x0 + n) && b.getLsbD (7 - (px - x0))

/-- A column flips its one pixel, if its bit is set and it is inside the display. -/
theorem drawColumn_drawn (x0 : Nat) {y0 : Nat} (hy : y0 < 32) (b : Byte) (c : Chip8) (col : Nat) :
    Drawn (fun px py => decide (px = x0 + col ∧ py = y0) && b.getLsbD (7 - col)) c (drawColumn x0 y0 b c col) := by
  unfold drawColumn
  simp only
  split
  · next h =>
    obtain ⟨hx, hbit⟩ := h
    exact (flipPixel_drawn hx hy c).congr fun px py _ _ => by rw [hbit, Bool.and_true]
  · next h =>
    refine (Drawn.refl c).congr fun px py hx _ => ?_
    symm
    rw [Bool.and_eq_false_imp]
    exact fun hp => Bool.eq_false_iff.mpr fun hbit => h ⟨by have := of_decide_eq_true hp; omega, hbit⟩

theorem rowBits_zero (x0 y0 : Nat) (b : Byte) (px py : Nat) : rowBits x0 y0 b 0 px py = false := by
  unfold rowBits
  grind

/-- The next column of a row is its next pixel. -/
theorem rowBits_succ (x0 y0 : Nat) (b : Byte) (n px py : Nat) : rowBits x0 y0 b (n + 1) px py =
    (rowBits x0 y0 b n px py || decide (px = x0 + n ∧ py = y0) && b.getLsbD (7 - n)) := by
  unfold rowBits
  by_cases hpx : px = x0 + n
  · subst hpx
    simp
  · grind

/-- It lies outside the columns before it. -/
theorem rowBits_disjoint (x0 y0 : Nat) (b : Byte) (n px py : Nat) :
    (rowBits x0 y0 b n px py && (decide (px = x0 + n ∧ py = y0) && b.getLsbD (7 - n))) = false := by
  unfold rowBits
  by_cases hpx : px = x0 + n
  · subst hpx
    simp
  · simp [hpx]

/-- A row, column by column. -/
theorem drawColumns_drawn (x0 : Nat) {y0 : Nat} (hy : y0 < 32) (b : Byte) (c : Chip8) (n : Nat) :
    Drawn (rowBits x0 y0 b n) c ((List.range n).foldl (drawColumn x0 y0 b) c) := by
  induction n with
  | zero => exact (Drawn.refl c).congr fun px py _ _ => (rowBits_zero x0 y0 b px py).symm
  | succ n ih =>
    rw [List.range_succ, List.foldl_append, List.foldl_cons, List.foldl_nil]
    exact (ih.trans (drawColumn_drawn x0 hy b _ n) (rowBits_disjoint x0 y0 b n)).congr fun px py _ _ =>
      (rowBits_succ x0 y0 b n px py).symm

/-- The pixels that `n` rows of the sprite at `I` flip, in the box from (`x0`, `y0`) on (rule R327). -/
def Chip8.boxBits (c : Chip8) (x0 y0 n px py : Nat) : Bool :=
  decide (x0 ≤ px) && decide (px < x0 + 8) && decide (y0 ≤ py) && decide (py < y0 + n) &&
    (c.load (c.i + BitVec.ofNat 12 (py - y0))).getLsbD (7 - (px - x0))

/-- The box of the statement is the one at the coordinates that `V[x]` and `V[y]` name. -/
theorem Chip8.spriteBit_eq (c : Chip8) (x y n : Nibble) (px py : Nat) :
    c.spriteBit x y n px py = c.boxBits ((c.reg x).toNat % 64) ((c.reg y).toNat % 32) n.toNat px py := rfl

/-- A draw leaves the sprite's bytes as they were. -/
theorem Drawn.load_eq {bits : Nat → Nat → Bool} {c d : Chip8} (h : Drawn bits c d) (k : Nat) :
    d.load (d.i + BitVec.ofNat 12 k) = c.load (c.i + BitVec.ofNat 12 k) :=
  (congrArg (fun z : Chip8 => z.load (z.i + BitVec.ofNat 12 k)) h.frame :)

theorem Drawn.boxBits_eq {bits : Nat → Nat → Bool} {c d : Chip8} (h : Drawn bits c d) (x0 y0 n px py : Nat) :
    d.boxBits x0 y0 n px py = c.boxBits x0 y0 n px py := by
  unfold Chip8.boxBits
  rw [h.load_eq]

/-- A row of the sprite, clipped at the bottom. -/
theorem drawRow_drawn (x0 y0 : Nat) (c : Chip8) (row : Nat) :
    Drawn (rowBits x0 (y0 + row) (c.load (c.i + BitVec.ofNat 12 row)) 8) c (drawRow x0 y0 c row) := by
  unfold drawRow
  split
  · next hy => exact drawColumns_drawn x0 hy _ c 8
  · next hy =>
    refine (Drawn.refl c).congr fun px py _ hpy => ?_
    have hne : py ≠ y0 + row := by omega
    simp [rowBits, hne]

section
variable (c : Chip8) (x0 y0 n px py : Nat)

theorem Chip8.boxBits_zero : c.boxBits x0 y0 0 px py = false := by
  unfold Chip8.boxBits
  grind

/-- The next row of the box is that of the sprite's next byte. -/
theorem Chip8.boxBits_succ : c.boxBits x0 y0 (n + 1) px py =
    (c.boxBits x0 y0 n px py || rowBits x0 (y0 + n) (c.load (c.i + BitVec.ofNat 12 n)) 8 px py) := by
  unfold Chip8.boxBits rowBits
  by_cases hpy : py = y0 + n
  · subst hpy
    simp
  · grind

/-- It lies below the rows before it. -/
theorem Chip8.boxBits_disjoint :
    (c.boxBits x0 y0 n px py && rowBits x0 (y0 + n) (c.load (c.i + BitVec.ofNat 12 n)) 8 px py) = false := by
  unfold Chip8.boxBits rowBits
  by_cases hpy : py = y0 + n
  · subst hpy
    simp
  · simp [hpy]

end

/-- The rows one after the other. -/
theorem drawRows_drawn (x0 y0 : Nat) (c : Chip8) (n : Nat) :
    Drawn (c.boxBits x0 y0 n) c ((List.range n).foldl (drawRow x0 y0) c) := by
  induction n with
  | zero => exact (Drawn.refl c).congr fun px py _ _ => (c.boxBits_zero x0 y0 px py).symm
  | succ n ih =>
    rw [List.range_succ, List.foldl_append, List.foldl_cons, List.foldl_nil]
    have hrow := drawRow_drawn x0 y0 ((List.range n).foldl (drawRow x0 y0) c) n
    rw [ih.load_eq] at hrow
    exact (ih.trans hrow (c.boxBits_disjoint x0 y0 n)).congr fun px py _ _ => (c.boxBits_succ x0 y0 n px py).symm

/-- The sprite is drawn with `VF` cleared first (rule R327). -/
theorem ch8Drw_drawn (x y n : Nibble) (c : Chip8) : Drawn (c.spriteBit x y n) (c.setReg 0xF 0) (ch8Drw x y n c) :=
  drawRows_drawn _ _ (c.setReg 0xF 0) n.toNat

/-- Settles O57: the draw flips the sprite's bits. -/
theorem chip8Draw : Obligations.Chip8Draw := by
  intro s x y n
  obtain ⟨hpixels, hset, hkept, hregisters, hframe⟩ := ch8Drw_drawn x y n s.ch8
  have hclear : (s.ch8.setReg 0xF 0).reg 0xF = 0 := by rw [Chip8.reg_setReg, if_pos rfl]
  refine ⟨ch8Drw x y n s.ch8, rfl, hpixels, ?_, ⟨fun hone => ?_, hset⟩, fun k hk => ?_, ?_⟩
  · by_cases hc : (s.ch8.setReg 0xF 0).collides (s.ch8.spriteBit x y n)
    · exact .inl (hset hc)
    · exact .inr ((hkept hc).trans hclear)
  · by_contra hc
    exact absurd (hone.symm.trans ((hkept hc).trans hclear)) (by decide)
  · rw [hregisters k hk, Chip8.reg_setReg, if_neg hk]
  · exact (congrArg (fun z : Chip8 => { z with v := s.ch8.v }) hframe :)

/-! ## Drawing twice -/

theorem Chip8.gfx_ext {c d : Chip8} (h : ∀ px py, px < 64 → py < 32 → c.pixel px py = d.pixel px py) : c.gfx = d.gfx := by
  refine Vector.ext fun py hpy => BitVec.eq_of_getLsbD_eq fun px hpx => ?_
  simpa only [Chip8.pixel, dif_pos hpy] using h px py hpx hpy

/-- Settles O58: the second draw flips the same pixels back. -/
theorem chip8DrawTwiceRestores : Obligations.Chip8DrawTwiceRestores := by
  refine fun s x y n => ⟨_, rfl, fun hx hy => ⟨_, rfl, Chip8.gfx_ext fun px py hpx hpy => ?_⟩⟩
  have hfirst := ch8Drw_drawn x y n s.ch8
  have hsecond := ch8Drw_drawn x y n (ch8Drw x y n s.ch8)
  have hsprite : (ch8Drw x y n s.ch8).spriteBit x y n px py = s.ch8.spriteBit x y n px py := by
    rw [Chip8.spriteBit_eq, Chip8.spriteBit_eq, hx, hy]
    exact hfirst.boxBits_eq _ _ _ px py
  calc (ch8Drw x y n (ch8Drw x y n s.ch8)).pixel px py
      = ((ch8Drw x y n s.ch8).pixel px py ^^ s.ch8.spriteBit x y n px py) := hsprite ▸ hsecond.pixels px py hpx hpy
    _ = (s.ch8.pixel px py ^^ s.ch8.spriteBit x y n px py ^^ s.ch8.spriteBit x y n px py) :=
      congrArg (· ^^ s.ch8.spriteBit x y n px py) (hfirst.pixels px py hpx hpy)
    _ = s.ch8.pixel px py := by rw [Bool.xor_assoc, Bool.xor_self, Bool.xor_false]

end Sys2Proof.Machine
end

section
/-! SUPPORT. Proofs: the CHIP-8 memory transfers (O59), and the key wait with the timers (O60). -/

namespace Sys2Proof.Machine

/-! ## The decimal digits -/

theorem addr12_ne_add_one (a : Addr12) : a ≠ a + 1 := by bv_omega
theorem addr12_ne_add_two (a : Addr12) : a ≠ a + 2 := by bv_omega
theorem addr12_add_one_ne_add_two (a : Addr12) : a + 1 ≠ a + 2 := by bv_omega

/-- The three bytes that `LD B,Vx` stores, and the rest of the memory (rules R336, R347). -/
theorem Chip8.load_ch8Bcd {c : Chip8} (hw : Memory.wf ch8Init c.memory = true) (x : Nibble) (a : Addr12) :
    (ch8Bcd x c).load a =
      if a = c.i + 2 then BitVec.ofNat 8 ((c.reg x).toNat % 10)
      else if a = c.i + 1 then BitVec.ofNat 8 ((c.reg x).toNat / 10 % 10)
      else if a = c.i then BitVec.ofNat 8 ((c.reg x).toNat / 100) else c.load a := by
  have hw1 := Chip8.wf_store hw c.i (BitVec.ofNat 8 ((c.reg x).toNat / 100))
  have hw2 := Chip8.wf_store hw1 (c.i + 1) (BitVec.ofNat 8 ((c.reg x).toNat / 10 % 10))
  refine (Chip8.load_store hw2 _ _ _).trans ?_
  rw [Chip8.load_store hw1, Chip8.load_store hw]

/-! ## The transfers of registers -/

/-- How far an address lies past another, modulo 4096. -/
def addrOffset (base a : Addr12) : Nat := (a - base).toNat

theorem eq_add_ofNat_iff {base a : Addr12} {n : Nat} (hn : n < 4096) : a = base + BitVec.ofNat 12 n ↔ addrOffset base a = n := by
  unfold addrOffset
  constructor
  · rintro rfl
    rw [BitVec.add_comm, BitVec.add_sub_cancel, BitVec.toNat_ofNat, Nat.mod_eq_of_lt hn]
  · rintro rfl
    rw [BitVec.ofNat_toNat, BitVec.setWidth_eq, BitVec.add_comm, BitVec.sub_add_cancel]

theorem eq_add_setWidth_iff {base a : Addr12} {k : Nibble} : a = base + k.setWidth 12 ↔ addrOffset base a = k.toNat := by
  rw [← BitVec.ofNat_toNat]
  exact eq_add_ofNat_iff (Nat.lt_trans k.isLt (by decide))

/-- What a transfer leaves in `I` (rules R337, R338, R347). -/
theorem index_add_succ (a : Addr12) (x : Nibble) : a + x.setWidth 12 + 1 = BitVec.ofNat 12 (a.toNat + x.toNat + 1) := by
  apply BitVec.eq_of_toNat_eq
  simp [BitVec.toNat_add]

/-- The first `n` registers are stored from `I` on, and the rest of the memory is as it was (rule R337). -/
theorem Chip8.load_storeRegs {c : Chip8} (hw : Memory.wf ch8Init c.memory = true) {n : Nat} (hn : n ≤ 16) (a : Addr12) :
    ((List.range n).foldl storeReg c).load a =
      if addrOffset c.i a < n then c.reg (BitVec.ofNat 4 (addrOffset c.i a)) else c.load a := by
  induction n with
  | zero => rfl
  | succ n ih =>
    have hwf : Memory.wf ch8Init ((List.range n).foldl storeReg c).memory = true :=
      List.foldlRecOn (motive := fun d : Chip8 => Memory.wf ch8Init d.memory = true) _ storeReg hw fun _ hd _ _ =>
        Chip8.wf_store hd _ _
    have hi : ((List.range n).foldl storeReg c).i = c.i :=
      Chip8.foldl_keeps Chip8.i (body := storeReg) (fun _ _ => rfl) _ c
    have hreg : ((List.range n).foldl storeReg c).reg = c.reg :=
      Chip8.foldl_keeps Chip8.reg (body := storeReg) (fun _ _ => rfl) _ c
    rw [List.range_succ, List.foldl_append, List.foldl_cons, List.foldl_nil, storeReg, Chip8.load_store hwf, ih (by omega), hi, hreg,
      if_congr (eq_add_ofNat_iff (by omega)) rfl rfl]
    by_cases ha : addrOffset c.i a = n
    · rw [if_pos ha, if_pos (by omega), ha]
    · rw [if_neg ha]
      exact if_congr (by omega) rfl rfl

/-- The first `n` registers are loaded from `I` on, and the others are as they were (rule R338). -/
theorem Chip8.reg_loadRegs (c : Chip8) {n : Nat} (hn : n ≤ 16) (k : Nibble) :
    ((List.range n).foldl loadReg c).reg k = if k.toNat < n then c.load (c.i + k.setWidth 12) else c.reg k := by
  induction n with
  | zero => rfl
  | succ n ih =>
    have hi : ((List.range n).foldl loadReg c).i = c.i :=
      Chip8.foldl_keeps Chip8.i (body := loadReg) (fun _ _ => rfl) _ c
    have hload : ((List.range n).foldl loadReg c).load = c.load :=
      Chip8.foldl_keeps Chip8.load (body := loadReg) (fun _ _ => rfl) _ c
    have hk : k = BitVec.ofNat 4 n ↔ k.toNat = n := by
      rw [← BitVec.toNat_inj, BitVec.toNat_ofNat, Nat.mod_eq_of_lt (by omega)]
    rw [List.range_succ, List.foldl_append, List.foldl_cons, List.foldl_nil, loadReg, Chip8.reg_setReg, ih (by omega), hi, hload,
      if_congr hk rfl rfl]
    by_cases hkn : k.toNat = n
    · rw [if_pos hkn, if_pos (by omega), ← hkn, BitVec.ofNat_toNat]
    · rw [if_neg hkn]
      exact if_congr (by omega) rfl rfl

/-- Settles O59: the three stores of `LD B,Vx`, and the two loops over the registers. -/
theorem chip8MemoryTransfers : Obligations.Chip8MemoryTransfers := by
  refine ⟨fun s x => ⟨ch8Bcd x s.ch8, rfl, rfl, fun hw => ⟨?_, ?_, ?_, fun a h h1 h2 => ?_⟩⟩,
    fun s x => ⟨⟨ch8StoreRegs x s.ch8, rfl, ?_, ?_, fun hw => ⟨fun k hk => ?_, fun a ha => ?_⟩⟩,
      ch8LoadRegs x s.ch8, rfl, ?_, ?_, fun k hk => ?_, fun k hk => ?_⟩⟩
  · have hv := (s.ch8.reg x).isLt
    rw [Chip8.load_ch8Bcd hw, if_neg (addr12_ne_add_two _), if_neg (addr12_ne_add_one _), if_pos rfl, BitVec.toNat_ofNat]
    omega
  · rw [Chip8.load_ch8Bcd hw, if_neg (addr12_add_one_ne_add_two _), if_pos rfl, BitVec.toNat_ofNat]
    omega
  · rw [Chip8.load_ch8Bcd hw, if_pos rfl, BitVec.toNat_ofNat]
    omega
  · rw [Chip8.load_ch8Bcd hw, if_neg h2, if_neg h1, if_neg h]
  · rw [← index_add_succ]
    exact congrArg (· + x.setWidth 12 + 1) (Chip8.foldl_keeps Chip8.i (body := storeReg) (fun _ _ => rfl) _ s.ch8)
  · exact Chip8.foldl_keeps (fun c => { c with memory := s.ch8.memory, i := s.ch8.i }) (body := storeReg) (fun _ _ => rfl) _ s.ch8
  · refine (Chip8.load_storeRegs hw x.isLt _).trans ?_
    rw [eq_add_setWidth_iff.mp rfl, if_pos (Nat.lt_succ_of_le hk), BitVec.ofNat_toNat, BitVec.setWidth_eq]
  · refine (Chip8.load_storeRegs hw x.isLt a).trans (if_neg fun hlt => ?_)
    have hk : (BitVec.ofNat 4 (addrOffset s.ch8.i a)).toNat = addrOffset s.ch8.i a :=
      Nat.mod_eq_of_lt (Nat.lt_of_lt_of_le hlt x.isLt)
    exact ha _ (hk.trans_le (Nat.le_of_lt_succ hlt)) (eq_add_setWidth_iff.mpr hk.symm)
  · rw [← index_add_succ]
    exact congrArg (· + x.setWidth 12 + 1) (Chip8.foldl_keeps Chip8.i (body := loadReg) (fun _ _ => rfl) _ s.ch8)
  · exact Chip8.foldl_keeps (fun c => { c with v := s.ch8.v, i := s.ch8.i }) (body := loadReg) (fun _ _ => rfl) _ s.ch8
  · exact (s.ch8.reg_loadRegs x.isLt k).trans (if_pos (Nat.lt_succ_of_le hk))
  · exact (s.ch8.reg_loadRegs x.isLt k).trans (if_neg (Nat.not_lt_of_le hk))

/-! ## The key wait -/

/-- The keys after a press or a release, whether or not it ends the wait (rule R343). -/
theorem Chip8.key_setKey (c : Chip8) (k j : Nibble) (pressed : Bool) :
    (c.setKey k pressed).key j = if j = k then pressed else c.key j := by
  have hset : Chip8.key { c with keys := c.keys.set k.toNat pressed k.isLt } j = if j = k then pressed else c.key j := by
    unfold Chip8.key
    rw [Vector.getElem_set]
    exact if_congr (by rw [BitVec.toNat_inj, eq_comm]) rfl rfl
  unfold Chip8.setKey
  simp only
  split
  · exact hset
  · exact hset

/-- Only the edge of a press during the wait does more than record the key (rule R343). -/
theorem Chip8.setKey_of_no_edge {c : Chip8} {k : Nibble} {pressed : Bool}
    (h : ¬ (pressed = true ∧ c.key k = false ∧ c.waitingForKey = true)) :
    c.setKey k pressed = { c with keys := c.keys.set k.toNat pressed k.isLt } :=
  if_neg (by simpa [and_assoc] using h)

/-- The edge ends the wait (rule R343). -/
theorem Chip8.setKey_of_edge {c : Chip8} {k : Nibble} (hk : c.key k = false) (hwait : c.waitingForKey = true) :
    c.setKey k true = Chip8.latchKey k { c with keys := c.keys.set k.toNat true k.isLt } :=
  if_pos (by simp [hk, hwait])

theorem toNat_countDown (v : Byte) : (if v = 0 then 0 else v - 1 : Byte).toNat = v.toNat - 1 := by
  have := v.isLt
  split
  · next h => rw [h]; rfl
  · next h => bv_omega

/-- Settles O60: the wait and its end, and the turns of a batch. -/
theorem chip8KeyWaitAndTimers : Obligations.Chip8KeyWaitAndTimers := by
  refine ⟨⟨fun _ _ => rfl, fun s hwait => if_pos hwait, fun s k pressed => ?_⟩, fun c => ?_, fun s hturn hb => ?_,
    fun s hturn hb => ?_, fun _ => rfl⟩
  · refine ⟨s.ch8.setKey k pressed, rfl, fun j => s.ch8.key_setKey k j pressed, fun h => ?_, fun hp hk hwait => ?_⟩
    · rw [Chip8.setKey_of_no_edge h]
    · subst hp
      rw [Chip8.setKey_of_edge hk hwait]
      have hreg (j : Nibble) := Chip8.reg_setReg { s.ch8 with keys := s.ch8.keys.set k.toNat true k.isLt } s.ch8.waitReg j
        (k.setWidth 8)
      have hframe : { s.ch8 with waitingForKey := s.ch8.waitingForKey } = s.ch8 := rfl
      rw [hwait] at hframe
      refine ⟨rfl, rfl, ?_, fun j hj => (hreg j).trans (if_neg hj), hframe⟩
      refine (congrArg BitVec.toNat ((hreg _).trans (if_pos rfl))).trans ?_
      exact BitVec.toNat_setWidth_of_le (by decide)
  · exact ⟨toNat_countDown _, toNat_countDown _, rfl, rfl⟩
  · exact step_of_ch8Batch hturn hb
  · obtain ⟨error, he⟩ := ch8TurnStart_eq s
    rw [step_of_ch8EmptyBatch hturn hb, he]
    rfl

end Sys2Proof.Machine
end
